-- ==== Sys2Proof/Word.lean ====
section
/-! DEFINITION. The word types of the block: bytes, 16-bit values and byte strings (00_scope R4, R5). -/

namespace Sys2Proof

/-- A byte is 8 bits (00_scope R4). -/
abbrev Byte := BitVec 8

/-- A 16-bit raw register value (10_state R50). -/
abbrev Half := BitVec 16

/-- A 32-bit value, the CRC's width (43_dfu_framer R350). -/
abbrev Word := BitVec 32

/-- A string of the configuration or of a request, as its bytes (log 24). -/
abbrev Text := List Byte

end Sys2Proof
end

