-- ==== Sys2Proof/Syntax.lean ====
section
/-! DEFINITION. The operations of the block, one constructor per row of spec/opcode_table.json, and the types of their operands. -/

namespace Sys2Proof

/-- The error number of a failed driver call. Only ENXIO and ENODEV are told apart (60_exceptions R601, log 8). -/
inductive Errno where
  | enxio
  | enodev
  | other (n : Nat)
deriving DecidableEq, Repr, Inhabited

/-- The cause of one failed transaction attempt (40_transport R202). -/
inductive Failure where
  | device (e : Errno)
  | shortRead (expected got : Nat)
  | shortWrite
deriving DecidableEq, Repr, Inhabited

/-- What a transaction raises: one attempt's failure, or the last failure of four (40_transport R203, R204). -/
inductive TransportError where
  | single (f : Failure)
  | retry (exhausted : Failure)
deriving DecidableEq, Repr, Inhabited

/-- The companion's power state (10_state R28): five named codes, the unnamed 4..12, and bytes above 13. -/
inductive PowerState where
  | off
  | poweringOn
  | operational
  | operationalCoOp
  | unnamed (code : Byte)
  | standby
  | unknown (value : Byte)
deriving DecidableEq, Repr, Inhabited

/-- The measurement snapshot (10_state R50): five raw channels and the power state. -/
structure Snapshot where
  vin : Half
  vscap : Half
  iin : Half
  tmcu : Half
  tpcb : Half
  pstate : PowerState
deriving DecidableEq, Repr, Inhabited

/-- The operand `r` of FSM_STEP: this tick's sample, or the error its reads raised (42_power_fsm R303). -/
inductive Sample where
  | ok (s : Snapshot)
  | err (e : TransportError)
deriving DecidableEq, Repr, Inhabited

/-- A typed configuration value (45_control R460). -/
inductive CfgValue where
  | int (v : Int)
  | rat (v : Rat)
  | text (v : Text)
deriving DecidableEq, Repr, Inhabited

/-- The operand of C_STANDBY (45_control R467, R468): whole seconds, an absolute wall-clock time in seconds,
or anything else, which is refused. -/
inductive StandbyArg where
  | delay (seconds : Int)
  | datetime (wake : Rat)
  | other (given : Text)
deriving DecidableEq, Repr, Inhabited

/-- The operations: one constructor per row of spec/opcode_table.json, in the table's order. -/
inductive Instr where
  -- bus transactions, raw (40_transport R200, R201)
  | rdreg (r : Byte) (n : Nat)
  | wrreg (r : Byte) (data : List Byte)
  -- bus transactions, named (41_register_ops)
  | rdHwver
  | rdFwver
  | rdDevid
  | rdWdt
  | wdArm
  | wdFeed
  | wdDisable
  | rdPon
  | wrPon (v : Nat)
  | rdVin
  | rdVscap
  | rdIin
  | rdTmcu
  | rdTpcb
  | rdPstate
  | rdUsb0
  | rdUsb1
  | rdUsb2
  | rdUsb3
  | wrUsb0 (on : Bool)
  | wrUsb1 (on : Bool)
  | wrUsb2 (on : Bool)
  | wrUsb3 (on : Bool)
  | wrShutdown
  | wrStandby (seconds : Nat)
  -- bus transactions, DFU (43_dfu_framer)
  | wrDfuStart (size : Nat)
  | rdDfuStatus
  | rdDfuBw
  | wrDfuBlock (index : Nat) (data : List Byte)
  | wrDfuCommit
  | wrDfuAbort
  -- typed readers and writers (40_transport R206 to R215)
  | rdu8 (r : Byte)
  | rdu16 (r : Byte)
  | rdu32 (r : Byte)
  | rdword (r : Byte)
  | wru8 (r : Byte) (v : Nat)
  | wru16 (r : Byte) (v : Nat)
  | wru32 (r : Byte) (v : Nat)
  -- named operations (41_register_ops)
  | readMeasurements
  | getUsb (port : Int)
  | setUsb (port : Int) (on : Bool)
  | requestShutdown
  | requestStandby (seconds : Nat)
  -- supervisor (42_power_fsm) and reset (70_reset)
  | tick
  | fsmStep (sample : Sample) (now : Nat)
  | shutdownSeq
  | exitSeq (code : Fin 2)
  | startup
  -- framer (43_dfu_framer)
  | crc32 (data : List Byte)
  | frame (index : Nat) (data : List Byte)
  | partition (image : List Byte)
  -- DFU engine (44_dfu_engine)
  | dfuUpload (image : List Byte)
  | dfuPrewait (index : Nat)
  | dfuSend (index : Nat)
  | dfuDrain (total : Nat)
  | dfuCommitSeq
  | dfuAbortSeq
  -- control requests (45_control)
  | cSnapshot
  | cGetConfig (key : Option Text)
  | cSetConfig (key : Text) (value : CfgValue)
  | cGetUsb (port : Int)
  | cSetUsb (port : Int) (on : Bool)
  | cShutdown
  | cStandby (arg : StandbyArg)
  | cUpload (image : List Byte)
deriving DecidableEq, Repr, Inhabited

end Sys2Proof
end

