-- ==== Sys2Proof/Config.lean ====
section
/-! DEFINITION. What the sources leave open: the parameters fixed for a run (00_scope section 3) and the draws of the input ports (00_scope R10, 10_state R40), both opaque. -/

namespace Sys2Proof

/-- The termination signals the block accepts (60_exceptions R606). -/
inductive SignalKind where
  | interrupt
  | terminate
deriving DecidableEq, Repr, Inhabited

/-- What can land at a suspension point of a running operation (60_exceptions R605, R640): a signal, a control request, or
another agent's run to its own next suspension point: request `k`'s agent, or the supervisor whose sleep is over. -/
inductive EnvAct where
  | signal (k : SignalKind)
  | request (word : List Byte)
  | serve (k : Nat)
  | wake
deriving DecidableEq, Repr, Inhabited

/-- One arrival in a suspension, so many milliseconds after the one before it. -/
structure Arrival where
  after : Nat
  act : EnvAct
deriving DecidableEq, Repr, Inhabited

/-- One suspension: how long it lasts beyond its lower bound (00_scope R7, 40_transport R205), what lands in it and when, and
whether the companion cuts host power in it (60_exceptions R639). -/
structure Susp where
  dur : Nat
  acts : List Arrival
  cut : Bool
deriving DecidableEq, Repr, Inhabited

/-- The companion's answer to one attempt (60_exceptions R630): bytes (a write takes them as success), a transfer that
stopped short, or a driver error. -/
inductive BusResp where
  | data (bs : List Byte)
  | short
  | device (e : Errno)
deriving DecidableEq, Repr, Inhabited

/-- One transaction attempt's draw: its duration and arrivals, and the answer. -/
structure BusDraw where
  susp : Susp
  resp : BusResp
deriving DecidableEq, Repr, Inhabited

/-- What an unfixed dialect-1 two-byte read gives (40_transport R209): a value, or the last failure of the transaction that
failed. -/
inductive Dialect1Resp where
  | value (v : Half)
  | fail (f : Failure)
deriving DecidableEq, Repr, Inhabited

/-- One unfixed dialect-1 read's draw: the successful transactions of its unstated trace before the last, as the suspensions
they end, then the last suspension and what the read gives (log 20). -/
structure Dialect1Draw where
  traffic : List Susp
  susp : Susp
  resp : Dialect1Resp
deriving DecidableEq, Repr, Inhabited

/-- The result of opening the bus device (70_reset R700); `none` is success. -/
structure OpenDraw where
  susp : Susp
  failed : Option Errno
deriving DecidableEq, Repr, Inhabited

/-- Configuration values as one source gives them, absent or typed (70_reset R704). -/
structure RawCfg where
  busIndex : Option CfgValue
  deviceAddress : Option CfgValue
  vlim : Option CfgValue
  tlim : Option CfgValue
  socketPath : Option CfgValue
  socketGroup : Option CfgValue
  poweroff : Option CfgValue
deriving DecidableEq, Repr, Inhabited

/-- What the excluded parser makes of a configuration file (70_reset R703, R704). -/
inductive ConfFile where
  | absent
  | unreadable
  | values (c : RawCfg)
deriving DecidableEq, Repr, Inhabited

/-- What the host hands to STARTUP: the flags, the path of `--conf` if given, and the files by path (70_reset R704). -/
structure BootInput where
  flags : RawCfg
  conf : Option Text
  files : List (Text × ConfFile)
deriving DecidableEq, Repr, Inhabited

/-- One transaction of a fixed dialect-1 sequence (40_transport R209). -/
inductive Dialect1Txn where
  | read (r : Byte) (n : Nat)
  | write (r : Byte) (data : List Byte)
deriving DecidableEq, Repr, Inhabited

/-- How a fixed dialect-1 sequence decodes its low byte (40_transport R209): the byte obtained at an index, or the open
decoding `Config.dialect1Low` of all responses. The high byte is always the first byte obtained. -/
inductive Dialect1Low where
  | byteAt (index : Nat)
  | decoded
deriving DecidableEq, Repr, Inhabited

/-- What a fixed dialect-1 read of one register does: its transactions, in order, and its decoding (40_transport R209). -/
structure Dialect1Read where
  txns : List Dialect1Txn
  low : Dialect1Low
deriving DecidableEq, Repr, Inhabited

/-- The OPEN parameter `DIALECT1_U16` (40_transport R209, log 20): unfixed, or the read of each register it fixes. -/
inductive Dialect1 where
  | unfixed
  | table (rows : List (Byte × Dialect1Read))
deriving DecidableEq, Repr, Inhabited

/-- The OPEN parameters (00_scope section 3, 93_implementation_defined items 8 to 12). -/
structure Params where
  fsVin : Rat
  fsVscap : Rat
  fsIin : Rat
  fsTmcu : Rat
  fsTpcb : Rat
  fsPon : Rat
  standbyMode : Byte
  dialect1 : Dialect1
  wdAnyTraffic : Bool
  tickSlackMs : Nat
  defaultBus : Nat
  defaultDevAddr : BitVec 7
  defaultVlim : Rat
  defaultTlim : Rat
  defaultPoweroff : Text
deriving DecidableEq, Repr, Inhabited

/-- The parameters of the run (log 3). -/
opaque Config.params : Params

/-- The `k`-th open answer of the bus (log 2). -/
opaque Config.drawBus : Nat → BusDraw

/-- The `k`-th open dialect-1 read (log 2). -/
opaque Config.drawDialect1 : Nat → Dialect1Draw

/-- The `k`-th open sleep (log 2). -/
opaque Config.drawSleep : Nat → Susp

/-- The `k`-th open idle wait (log 2). -/
opaque Config.drawIdle : Nat → Susp

/-- The `k`-th open lateness of a tick (log 2, log 33). -/
opaque Config.drawLate : Nat → Nat

/-- The `k`-th open result of opening the bus (log 2). -/
opaque Config.drawOpen : Nat → OpenDraw

/-- The `k`-th open boot input (log 2). -/
opaque Config.drawBoot : Nat → BootInput

/-- The `k`-th open launch result; true is launched (42_power_fsm R321, log 2). -/
opaque Config.drawLaunch : Nat → Bool

/-- The `k`-th open wall-clock time, in seconds (45_control R468, log 23). -/
opaque Config.drawWall : Nat → Rat

/-- The `k`-th open choice among the agents that can run (10_state R30, log 2). -/
opaque Config.drawAgent : Nat → Nat

/-- The low byte an open decoding makes of the responses of a fixed dialect-1 read of a register (40_transport R209, log 20). -/
opaque Config.dialect1Low : Byte → List (List Byte) → Byte

/-- Byte `i` of what the reference companion answers for a register whose value no rule and no test names
(60_exceptions R633, log 21). -/
opaque Config.refByte : Byte → Nat → Byte

end Sys2Proof
end

