-- ==== Sys2Proof/Machine/Fields.lean ====
section
/-! DEFINITION. Byte strings and bit fields: big-endian integers (00_scope R5, 20_memory R71, 30_encoding R106), two's complement, the power-state byte (10_state R28). -/

namespace Sys2Proof.Machine

/-- `v` as `k` bytes, most significant first, modulo `256 ^ k` (00_scope R5). -/
def beN : Nat → Nat → List Byte
  | 0, _ => []
  | k + 1, v => BitVec.ofNat 8 (v / 256 ^ k) :: beN k v

/-- `be16` (00_scope R5). -/
def be16 (v : Nat) : List Byte := beN 2 v

/-- `be32` (00_scope R5). -/
def be32 (v : Nat) : List Byte := beN 4 v

/-- Eight bytes, used only by operand layouts of the model's own (log 5). -/
def be64 (v : Nat) : List Byte := beN 8 v

/-- `dec_be` with what has been read so far. -/
def decBeFrom (acc : Nat) : List Byte → Nat
  | [] => acc
  | b :: bs => decBeFrom (acc * 256 + b.toNat) bs

/-- `dec_be(s)`: the unsigned big-endian value of a byte string (00_scope R5). -/
def decBe (s : List Byte) : Nat := decBeFrom 0 s

/-- The two's complement of an integer in 64 bits. -/
def twos64 (i : Int) : Nat := (BitVec.ofInt 64 i).toNat

/-- The integer whose two's complement in 64 bits is `v`. -/
def ofTwos64 (v : Nat) : Int := (BitVec.ofNat 64 v).toInt

/-- The bytes of a number, least significant first, `k` of them. -/
def leBytes : Nat → Nat → List Byte
  | 0, _ => []
  | k + 1, v => BitVec.ofNat 8 v :: leBytes k (v / 256)

/-- `decode_ps` (41_register_ops R257): every byte has a power state, none is an error. -/
def decodePs (b : Byte) : PowerState :=
  if b.toNat = 0 then .off
  else if b.toNat = 1 then .poweringOn
  else if b.toNat = 2 then .operational
  else if b.toNat = 3 then .operationalCoOp
  else if b.toNat ≤ 12 then .unnamed b
  else if b.toNat = 13 then .standby
  else .unknown b

/-- The byte of a power state (10_state R28). -/
def psByte : PowerState → Byte
  | .off => 0
  | .poweringOn => 1
  | .operational => 2
  | .operationalCoOp => 3
  | .unnamed code => code
  | .standby => 13
  | .unknown value => value

end Sys2Proof.Machine
end

