-- ==== Sys2Proof/Machine/Crc.lean ====
section
/-! DEFINITION. The pure functions of the DFU framer: CRC32, frames and blocks (43_dfu_framer R350 to R354). -/

namespace Sys2Proof.Machine

/-- `MAX_IMAGE` = 65535 blocks of 4096 bytes (00_scope section 3, 44_dfu_engine R381). -/
def maxImage : Nat := 65535 * 4096

/-- `BLOCK_SIZE` (00_scope section 3). -/
def blockSize : Nat := 4096

/-- One of the eight shifts of a byte (43_dfu_framer R350). -/
def crcShift (c : Word) : Word :=
  if c.getLsbD 0 then (c >>> 1) ^^^ 0xEDB88320#32 else c >>> 1

/-- `n` shifts. -/
def crcShifts : Nat → Word → Word
  | 0, c => c
  | n + 1, c => crcShifts n (crcShift c)

/-- One byte of the string enters the register (43_dfu_framer R350). -/
def crcByte (c : Word) (b : Byte) : Word := crcShifts 8 (c ^^^ b.setWidth 32)

/-- `CRC32(s)` with the parameters of 43_dfu_framer R350 (log 7). -/
def crc32 (s : List Byte) : Word := s.foldl crcByte 0xFFFFFFFF#32 ^^^ 0xFFFFFFFF#32

/-- The bytes a frame's CRC covers: index, length, data (43_dfu_framer R351). -/
def frameBody (i : Nat) (d : List Byte) : List Byte := be16 i ++ be16 d.length ++ d

/-- `FRAME(i, d)` (43_dfu_framer R352, 30_encoding R104). -/
def frameBytes (i : Nat) (d : List Byte) : List Byte :=
  be32 (crc32 (frameBody i d)).toNat ++ frameBody i d

/-- The operands FRAME is stated for (43_dfu_framer R352). -/
def frameInRange (i : Nat) (d : List Byte) : Bool :=
  decide (i ≤ 65534) && decide (1 ≤ d.length) && decide (d.length ≤ blockSize)

/-- `B = ceil(N / 4096)` as `(N + 4095) div 4096` (40_transport R219). -/
def blockCount (n : Nat) : Nat := (n + 4095) / 4096

/-- Block `i` of an image: its bytes from `4096·i` up to at most `4096·(i+1)` (43_dfu_framer R353). -/
def blockAt (image : List Byte) (i : Nat) : List Byte := (image.drop (blockSize * i)).take blockSize

/-- `PARTITION(image)` (43_dfu_framer R353). -/
def partitionImage (image : List Byte) : List (List Byte) :=
  (List.range (blockCount image.length)).map (blockAt image)

end Sys2Proof.Machine
end

