-- ==== Sys2Proof/WellFormed.lean ====
section
/-! DEFINITION. Which operand values an operation is stated for and its encoding admits; an operation outside them is no operation of the block (92 D46, log 5, log 30). -/

namespace Sys2Proof

/-- A number that a field of `k` bytes holds. -/
def fitsBytes (k v : Nat) : Bool := decide (v < 256 ^ k)

/-- An integer that 64 bits hold in two's complement. -/
def fitsInt64 (i : Int) : Bool := decide (-(2 ^ 63) ≤ i) && decide (i < 2 ^ 63)

/-- A rational whose numerator and denominator fit the layout of log 5. -/
def fitsRat (q : Rat) : Bool := fitsInt64 q.num && decide (q.den ≤ 2 ^ 64)

/-- A byte string whose length a 4-byte field holds. -/
def fitsString (s : List Byte) : Bool := fitsBytes 4 s.length

/-- An error number as log 5 lays it out. -/
def Errno.wf : Errno → Bool
  | .enxio => true
  | .enodev => true
  | .other n => fitsBytes 8 n

/-- A failure as log 5 lays it out. -/
def Failure.wf : Failure → Bool
  | .device e => e.wf
  | .shortRead expected got => fitsBytes 8 expected && fitsBytes 8 got
  | .shortWrite => true

/-- A transport error as log 5 lays it out, whether or not `Attempt` produces it (40_transport R204; DESIGN CHOICE, log 44). -/
def TransportError.wf : TransportError → Bool
  | .single f => f.wf
  | .retry f => f.wf

/-- A power state that `decode_ps` can give (10_state R28). -/
def PowerState.wf : PowerState → Bool
  | .off => true
  | .poweringOn => true
  | .operational => true
  | .operationalCoOp => true
  | .unnamed code => decide (4 ≤ code.toNat) && decide (code.toNat ≤ 12)
  | .standby => true
  | .unknown value => decide (14 ≤ value.toNat)

/-- A sample operand (42_power_fsm R303). -/
def Sample.wf : Sample → Bool
  | .ok s => s.pstate.wf
  | .err e => e.wf

/-- A configuration value that fits its layout. -/
def CfgValue.wf : CfgValue → Bool
  | .int v => fitsInt64 v
  | .rat v => fitsRat v
  | .text v => fitsString v

/-- A standby operand that fits its layout. -/
def StandbyArg.wf : StandbyArg → Bool
  | .delay d => fitsInt64 d
  | .datetime w => fitsRat w
  | .other t => fitsString t

/-- Well-formed operations: each operand in the range its rule and its encoding give it. -/
def Instr.wf : Instr → Bool
  | .rdreg _ n => decide (1 ≤ n) && decide (n ≤ 2 ^ 32)
  | .wrreg _ data => decide (1 ≤ data.length) && decide (data.length ≤ 2 ^ 32)
  | .rdHwver => true
  | .rdFwver => true
  | .rdDevid => true
  | .rdWdt => true
  | .wdArm => true
  | .wdFeed => true
  | .wdDisable => true
  | .rdPon => true
  | .wrPon v => fitsBytes 2 v
  | .rdVin => true
  | .rdVscap => true
  | .rdIin => true
  | .rdTmcu => true
  | .rdTpcb => true
  | .rdPstate => true
  | .rdUsb0 => true
  | .rdUsb1 => true
  | .rdUsb2 => true
  | .rdUsb3 => true
  | .wrUsb0 _ => true
  | .wrUsb1 _ => true
  | .wrUsb2 _ => true
  | .wrUsb3 _ => true
  | .wrShutdown => true
  | .wrStandby s => fitsBytes 4 s
  | .wrDfuStart n => decide (1 ≤ n) && decide (n ≤ Machine.maxImage)
  | .rdDfuStatus => true
  | .rdDfuBw => true
  | .wrDfuBlock i d => Machine.frameInRange i d
  | .wrDfuCommit => true
  | .wrDfuAbort => true
  | .rdu8 _ => true
  | .rdu16 _ => true
  | .rdu32 _ => true
  | .rdword _ => true
  | .wru8 _ v => fitsBytes 1 v
  | .wru16 _ v => fitsBytes 2 v
  | .wru32 _ v => fitsBytes 4 v
  | .readMeasurements => true
  | .getUsb p => fitsInt64 p
  | .setUsb p _ => fitsInt64 p
  | .requestShutdown => true
  | .requestStandby s => fitsBytes 4 s
  | .tick => true
  | .fsmStep r now => r.wf && fitsBytes 8 now
  | .shutdownSeq => true
  | .exitSeq _ => true
  | .startup => true
  | .crc32 s => fitsString s
  | .frame i d => Machine.frameInRange i d
  | .partition image => decide (1 ≤ image.length) && decide (image.length ≤ Machine.maxImage)
  | .dfuUpload image => fitsString image
  | .dfuPrewait i => fitsBytes 4 i
  | .dfuSend i => fitsBytes 4 i
  | .dfuDrain b => fitsBytes 4 b
  | .dfuCommitSeq => true
  | .dfuAbortSeq => true
  | .cSnapshot => true
  | .cGetConfig none => true
  | .cGetConfig (some key) => fitsString key
  | .cSetConfig key value => fitsString key && value.wf
  | .cGetUsb p => fitsInt64 p
  | .cSetUsb p _ => fitsInt64 p
  | .cShutdown => true
  | .cStandby arg => arg.wf
  | .cUpload image => fitsString image

end Sys2Proof
end

