-- ==== Sys2Proof/Decode.lean ====
section
/-! DEFINITION. The decoder of operation words, total on any bytes and rejecting by name, and after it the encoder (30_encoding R100 to R133, log 5, log 6). -/

namespace Sys2Proof

/-- The two shapes of an operation word: a bus transaction with its 9-bit descriptor (30_encoding R101), or an
8-bit operation or request code (R130, R133) with its operands. -/
inductive Format where
  | bus
  | code
deriving DecidableEq, Repr, Inhabited

/-- An operation word: its format and its bytes, zero bytes filling the slot behind it. -/
structure OpWord where
  fmt : Format
  bytes : List Byte
deriving DecidableEq, Repr, Inhabited

/-- Why a word is no operation. -/
inductive DecodeError where
  /-- the word ends inside an operand -/
  | truncated
  /-- no row of the table has this code (30_encoding R130, R133) -/
  | unknownCode (c : Byte)
  /-- descriptor bits above bit 8 are set (30_encoding R101) -/
  | badDescriptor (high : Byte)
  /-- a flag, tag or enumerated operand has no such value -/
  | badTag (b : Byte)
  /-- the frame's index, length or CRC is not one the block produces (30_encoding R123, 43_dfu_framer R352) -/
  | badFrame
  /-- bytes other than zero follow the operation -/
  | trailing
deriving DecidableEq, Repr, Inhabited

/-- A decoder over the bytes that are left. -/
abbrev Dec (α : Type) := EStateM DecodeError (List Byte) α

/-- The next byte. -/
def takeByte : Dec Byte
  | [] => .error .truncated []
  | b :: rest => .ok b rest

/-- The next `n` bytes. -/
def takeN (n : Nat) : Dec (List Byte) := fun bs =>
  if n ≤ bs.length then .ok (bs.take n) (bs.drop n) else .error .truncated bs

/-- A big-endian number of `k` bytes (20_memory R71). -/
def takeBe (k : Nat) : Dec Nat := do
  let bs ← takeN k
  return Machine.decBe bs

/-- A byte string after its 4-byte length (log 5). -/
def takeString : Dec (List Byte) := do
  let n ← takeBe 4
  takeN n

/-- A byte string of at least one byte, after its length less one (log 5). -/
def takeString1 : Dec (List Byte) := do
  let n ← takeBe 4
  takeN (n + 1)

/-- A Boolean operand: 0 or 1 (30_encoding R107). -/
def takeBool : Dec Bool := do
  let b ← takeByte
  if b = 0 then return false else if b = 1 then return true else throw (.badTag b)

/-- A signed operand (log 5). -/
def takeInt : Dec Int := do
  let v ← takeBe 8
  return Machine.ofTwos64 v

/-- A rational operand: numerator, then denominator less one (log 5). -/
def takeRat : Dec Rat := do
  let n ← takeInt
  let d ← takeBe 8
  return mkRat n (d + 1)

/-- A 16-bit raw value. -/
def takeHalf : Dec Half := do
  let v ← takeBe 2
  return BitVec.ofNat 16 v

/-- An error number (log 5). -/
def takeErrno : Dec Errno := do
  let t ← takeByte
  if t = 0 then return .enxio
  else if t = 1 then return .enodev
  else if t = 2 then do
    let n ← takeBe 8
    return .other n
  else throw (.badTag t)

/-- A failure (log 5). -/
def takeFailure : Dec Failure := do
  let t ← takeByte
  if t = 0 then do
    let e ← takeErrno
    return .device e
  else if t = 1 then do
    let expected ← takeBe 8
    let got ← takeBe 8
    return .shortRead expected got
  else if t = 2 then return .shortWrite
  else throw (.badTag t)

/-- A snapshot: five 16-bit values in the order of 10_state R50 and the power-state byte. -/
def takeSnapshot : Dec Snapshot := do
  let vin ← takeHalf
  let vscap ← takeHalf
  let iin ← takeHalf
  let tmcu ← takeHalf
  let tpcb ← takeHalf
  let ps ← takeByte
  return ⟨vin, vscap, iin, tmcu, tpcb, Machine.decodePs ps⟩

/-- The sample operand of FSM_STEP (log 5). A `Retry` of a fatal failure and a single transient one, which no rule produces
(40_transport R204), are words too and stand for a failed sample like any other (DESIGN CHOICE, log 44). -/
def takeSample : Dec Sample := do
  let t ← takeByte
  if t = 0 then do
    let s ← takeSnapshot
    return .ok s
  else if t = 1 then do
    let f ← takeFailure
    return .err (.single f)
  else if t = 2 then do
    let f ← takeFailure
    return .err (.retry f)
  else throw (.badTag t)

/-- The optional key of C_GET_CONFIG (log 5). -/
def takeKey : Dec (Option Text) := do
  let t ← takeByte
  if t = 0 then return none
  else if t = 1 then do
    let k ← takeString
    return some k
  else throw (.badTag t)

/-- A typed configuration value (log 5). -/
def takeCfgValue : Dec CfgValue := do
  let t ← takeByte
  if t = 0 then do
    let v ← takeInt
    return .int v
  else if t = 1 then do
    let v ← takeRat
    return .rat v
  else if t = 2 then do
    let v ← takeString
    return .text v
  else throw (.badTag t)

/-- The operand of C_STANDBY (log 5). -/
def takeStandby : Dec StandbyArg := do
  let t ← takeByte
  if t = 0 then do
    let d ← takeInt
    return .delay d
  else if t = 1 then do
    let w ← takeRat
    return .datetime w
  else if t = 2 then do
    let s ← takeString
    return .other s
  else throw (.badTag t)

/-- A frame as 43_dfu_framer R352 builds it: its length field tells its length (30_encoding R123), and only an index,
a length and a CRC that the block produces are taken. -/
def takeFrame : Dec Instr := do
  let crc ← takeN 4
  let i ← takeBe 2
  let n ← takeBe 2
  let d ← takeN n
  if Machine.frameInRange i d = true ∧ crc = Machine.be32 (Machine.crc32 (Machine.frameBody i d)).toNat then
    return .wrDfuBlock i d
  else throw .badFrame

/-- The data of a write to 0x10, whose descriptor three rows share (30_encoding R110, log 6). -/
def takeWatchdogWrite (r : Byte) : Dec Instr := do
  let data ← takeN 2
  if data = [0x03, 0xE8] then return .wdArm
  else if data = [0x00, 0x00] then return .wdDisable
  else return .wrreg r data

/-- A read transaction by its register address (30_encoding R101, R110); an address without a row is the raw read. -/
def decodeRead (r : Byte) : Dec Instr :=
  match r.toNat with
  | 0x03 => return .rdHwver
  | 0x04 => return .rdFwver
  | 0x05 => return .rdDevid
  | 0x10 => return .rdWdt
  | 0x11 => return .rdPon
  | 0x20 => return .rdVin
  | 0x21 => return .rdVscap
  | 0x22 => return .rdIin
  | 0x23 => return .rdTmcu
  | 0x24 => return .rdTpcb
  | 0x25 => return .rdPstate
  | 0x26 => return .rdUsb0
  | 0x27 => return .rdUsb1
  | 0x28 => return .rdUsb2
  | 0x29 => return .rdUsb3
  | 0x41 => return .rdDfuStatus
  | 0x42 => return .rdDfuBw
  | _ => do
    let n ← takeBe 4
    return .rdreg r (n + 1)

/-- A write transaction by its register address (30_encoding R101, R110); an address without a row is the raw write. -/
def decodeWrite (r : Byte) : Dec Instr :=
  match r.toNat with
  | 0x10 => takeWatchdogWrite r
  | 0x11 => do
    let v ← takeBe 2
    return .wrPon v
  | 0x26 => do
    let e ← takeBool
    return .wrUsb0 e
  | 0x27 => do
    let e ← takeBool
    return .wrUsb1 e
  | 0x28 => do
    let e ← takeBool
    return .wrUsb2 e
  | 0x29 => do
    let e ← takeBool
    return .wrUsb3 e
  | 0x30 => return .wrShutdown
  | 0x31 => do
    let s ← takeBe 4
    return .wrStandby s
  | 0x40 => do
    let n ← takeBe 4
    return .wrDfuStart n
  | 0x43 => takeFrame
  | 0x44 => return .wrDfuCommit
  | 0x45 => return .wrDfuAbort
  | _ => do
    let data ← takeString1
    return .wrreg r data

/-- A bus word: the descriptor's register address, then its direction bit (30_encoding R101, log 6). -/
def decodeBus : Dec Instr := do
  let r ← takeByte
  let high ← takeByte
  if high = 1 then decodeRead r else if high = 0 then decodeWrite r else throw (.badDescriptor high)

/-- A word that begins with an operation code (30_encoding R133) or a request code (R130). -/
def decodeCode : Dec Instr := do
  let c ← takeByte
  match c.toNat with
  | 0x01 => return .cSnapshot
  | 0x02 => do
    let key ← takeKey
    return .cGetConfig key
  | 0x03 => do
    let key ← takeString
    let value ← takeCfgValue
    return .cSetConfig key value
  | 0x04 => do
    let p ← takeInt
    return .cGetUsb p
  | 0x05 => do
    let p ← takeInt
    let e ← takeBool
    return .cSetUsb p e
  | 0x06 => return .cShutdown
  | 0x07 => do
    let a ← takeStandby
    return .cStandby a
  | 0x08 => do
    let image ← takeString
    return .cUpload image
  | 0x10 => do
    let r ← takeByte
    let n ← takeBe 4
    return .rdreg r (n + 1)
  | 0x11 => do
    let r ← takeByte
    let data ← takeString1
    return .wrreg r data
  | 0x12 => do
    let r ← takeByte
    return .rdu8 r
  | 0x13 => do
    let r ← takeByte
    return .rdu16 r
  | 0x14 => do
    let r ← takeByte
    return .rdu32 r
  | 0x15 => do
    let r ← takeByte
    return .rdword r
  | 0x16 => do
    let r ← takeByte
    let v ← takeBe 1
    return .wru8 r v
  | 0x17 => do
    let r ← takeByte
    let v ← takeBe 2
    return .wru16 r v
  | 0x18 => do
    let r ← takeByte
    let v ← takeBe 4
    return .wru32 r v
  | 0x20 => return .readMeasurements
  | 0x21 => return .wdArm
  | 0x22 => return .wdFeed
  | 0x23 => return .wdDisable
  | 0x24 => do
    let p ← takeInt
    return .getUsb p
  | 0x25 => do
    let p ← takeInt
    let e ← takeBool
    return .setUsb p e
  | 0x26 => return .requestShutdown
  | 0x27 => do
    let s ← takeBe 4
    return .requestStandby s
  | 0x30 => return .tick
  | 0x31 => do
    let r ← takeSample
    let now ← takeBe 8
    return .fsmStep r now
  | 0x32 => return .shutdownSeq
  | 0x33 => do
    let e ← takeBool
    return .exitSeq (if e then 1 else 0)
  | 0x34 => return .startup
  | 0x40 => do
    let s ← takeString
    return .crc32 s
  | 0x41 => do
    let i ← takeBe 2
    let n ← takeBe 2
    let d ← takeN (n + 1)
    return .frame i d
  | 0x42 => do
    let image ← takeString1
    return .partition image
  | 0x48 => do
    let image ← takeString
    return .dfuUpload image
  | 0x49 => do
    let i ← takeBe 4
    return .dfuPrewait i
  | 0x4A => do
    let i ← takeBe 4
    return .dfuSend i
  | 0x4B => do
    let b ← takeBe 4
    return .dfuDrain b
  | 0x4C => return .dfuCommitSeq
  | 0x4D => return .dfuAbortSeq
  | _ => throw (.unknownCode c)

/-- Decoding of one word: the operation and the bytes behind it. -/
def decodeWord (w : OpWord) : EStateM.Result DecodeError (List Byte) Instr :=
  match w.fmt with
  | .bus => decodeBus w.bytes
  | .code => decodeCode w.bytes

/-- The operation a word holds; nothing but zero bytes may fill the slot behind it. -/
def decode (w : OpWord) : Except DecodeError Instr :=
  match decodeWord w with
  | .ok i rest => if rest.all (fun b => b == 0) then .ok i else .error .trailing
  | .error e _ => .error e

/-- How many zero bytes fill the slot behind a table word: more than the longest operation whose operand bytes are all
zero (FSM_STEP, 20 bytes). -/
def slotFill : Nat := 64

/-- The word the host's numbering means: rows of more than 8 bits are bus descriptors, the others are codes; the bytes
stand least significant first, zeros behind them. -/
def tableWord (nbits w : Nat) : OpWord :=
  { fmt := if nbits ≤ 8 then .code else .bus
    bytes := Machine.leBytes (nbits / 8) w ++ List.replicate slotFill 0 }

/-- The operation the decoder reads from a table word. -/
def decodeTableWord (nbits w : Nat) : Option Instr :=
  match decode (tableWord nbits w) with
  | .ok i => some i
  | .error _ => none

/-! The encoder. -/

/-- A byte string behind its length. -/
def putString (s : List Byte) : List Byte := Machine.be32 s.length ++ s

/-- A non-empty byte string behind its length less one. -/
def putString1 (s : List Byte) : List Byte := Machine.be32 (s.length - 1) ++ s

/-- A Boolean operand. -/
def putBool (e : Bool) : List Byte := if e then [1] else [0]

/-- A signed operand. -/
def putInt (i : Int) : List Byte := Machine.be64 (Machine.twos64 i)

/-- A rational operand. -/
def putRat (q : Rat) : List Byte := putInt q.num ++ Machine.be64 (q.den - 1)

/-- A 16-bit raw value. -/
def putHalf (v : Half) : List Byte := Machine.be16 v.toNat

/-- An error number. -/
def putErrno : Errno → List Byte
  | .enxio => [0]
  | .enodev => [1]
  | .other n => 2 :: Machine.be64 n

/-- A failure. -/
def putFailure : Failure → List Byte
  | .device e => 0 :: putErrno e
  | .shortRead expected got => 1 :: (Machine.be64 expected ++ Machine.be64 got)
  | .shortWrite => [2]

/-- A sample operand. -/
def putSample : Sample → List Byte
  | .ok s => 0 :: (putHalf s.vin ++ putHalf s.vscap ++ putHalf s.iin ++ putHalf s.tmcu ++ putHalf s.tpcb ++
      [Machine.psByte s.pstate])
  | .err (.single f) => 1 :: putFailure f
  | .err (.retry f) => 2 :: putFailure f

/-- An optional key. -/
def putKey : Option Text → List Byte
  | none => [0]
  | some k => 1 :: putString k

/-- A typed configuration value. -/
def putCfgValue : CfgValue → List Byte
  | .int v => 0 :: putInt v
  | .rat v => 1 :: putRat v
  | .text v => 2 :: putString v

/-- A standby operand. -/
def putStandby : StandbyArg → List Byte
  | .delay d => 0 :: putInt d
  | .datetime w => 1 :: putRat w
  | .other t => 2 :: putString t

/-- A read descriptor (30_encoding R101): address byte, then the direction bit set. -/
def busRead (r : Byte) : OpWord := ⟨.bus, [r, 1]⟩

/-- A write descriptor with the data bytes that vary (log 6). -/
def busWrite (r : Byte) (data : List Byte) : OpWord := ⟨.bus, r :: 0 :: data⟩

/-- A code with its operands. -/
def codeWord (c : Byte) (operands : List Byte) : OpWord := ⟨.code, c :: operands⟩

/-- The word of an operation, in the format of its row of spec/opcode_table.json; RDREG, WRREG and WD_FEED, whose
descriptors other rows share, by their codes (30_encoding R133, log 6). -/
def encode : Instr → OpWord
  | .rdreg r n => codeWord 0x10 (r :: Machine.be32 (n - 1))
  | .wrreg r data => codeWord 0x11 (r :: putString1 data)
  | .rdHwver => busRead 0x03
  | .rdFwver => busRead 0x04
  | .rdDevid => busRead 0x05
  | .rdWdt => busRead 0x10
  | .wdArm => busWrite 0x10 [0x03, 0xE8]
  | .wdFeed => codeWord 0x22 []
  | .wdDisable => busWrite 0x10 [0x00, 0x00]
  | .rdPon => busRead 0x11
  | .wrPon v => busWrite 0x11 (Machine.be16 v)
  | .rdVin => busRead 0x20
  | .rdVscap => busRead 0x21
  | .rdIin => busRead 0x22
  | .rdTmcu => busRead 0x23
  | .rdTpcb => busRead 0x24
  | .rdPstate => busRead 0x25
  | .rdUsb0 => busRead 0x26
  | .rdUsb1 => busRead 0x27
  | .rdUsb2 => busRead 0x28
  | .rdUsb3 => busRead 0x29
  | .wrUsb0 e => busWrite 0x26 (putBool e)
  | .wrUsb1 e => busWrite 0x27 (putBool e)
  | .wrUsb2 e => busWrite 0x28 (putBool e)
  | .wrUsb3 e => busWrite 0x29 (putBool e)
  | .wrShutdown => busWrite 0x30 []
  | .wrStandby s => busWrite 0x31 (Machine.be32 s)
  | .wrDfuStart n => busWrite 0x40 (Machine.be32 n)
  | .rdDfuStatus => busRead 0x41
  | .rdDfuBw => busRead 0x42
  | .wrDfuBlock i d => busWrite 0x43 (Machine.frameBytes i d)
  | .wrDfuCommit => busWrite 0x44 []
  | .wrDfuAbort => busWrite 0x45 []
  | .rdu8 r => codeWord 0x12 [r]
  | .rdu16 r => codeWord 0x13 [r]
  | .rdu32 r => codeWord 0x14 [r]
  | .rdword r => codeWord 0x15 [r]
  | .wru8 r v => codeWord 0x16 (r :: Machine.beN 1 v)
  | .wru16 r v => codeWord 0x17 (r :: Machine.be16 v)
  | .wru32 r v => codeWord 0x18 (r :: Machine.be32 v)
  | .readMeasurements => codeWord 0x20 []
  | .getUsb p => codeWord 0x24 (putInt p)
  | .setUsb p e => codeWord 0x25 (putInt p ++ putBool e)
  | .requestShutdown => codeWord 0x26 []
  | .requestStandby s => codeWord 0x27 (Machine.be32 s)
  | .tick => codeWord 0x30 []
  | .fsmStep r now => codeWord 0x31 (putSample r ++ Machine.be64 now)
  | .shutdownSeq => codeWord 0x32 []
  | .exitSeq code => codeWord 0x33 (putBool (code == 1))
  | .startup => codeWord 0x34 []
  | .crc32 s => codeWord 0x40 (putString s)
  | .frame i d => codeWord 0x41 (Machine.be16 i ++ Machine.be16 (d.length - 1) ++ d)
  | .partition image => codeWord 0x42 (putString1 image)
  | .dfuUpload image => codeWord 0x48 (putString image)
  | .dfuPrewait i => codeWord 0x49 (Machine.be32 i)
  | .dfuSend i => codeWord 0x4A (Machine.be32 i)
  | .dfuDrain b => codeWord 0x4B (Machine.be32 b)
  | .dfuCommitSeq => codeWord 0x4C []
  | .dfuAbortSeq => codeWord 0x4D []
  | .cSnapshot => codeWord 0x01 []
  | .cGetConfig key => codeWord 0x02 (putKey key)
  | .cSetConfig key value => codeWord 0x03 (putString key ++ putCfgValue value)
  | .cGetUsb p => codeWord 0x04 (putInt p)
  | .cSetUsb p e => codeWord 0x05 (putInt p ++ putBool e)
  | .cShutdown => codeWord 0x06 []
  | .cStandby arg => codeWord 0x07 (putStandby arg)
  | .cUpload image => codeWord 0x08 (putString image)

end Sys2Proof
end

