-- ==== Sys2Proof/Machine/State.lean ====
section
/-! DEFINITION. The state of the block as plain data (10_state), its errors (60_exceptions R600), its ports' events, and reset. -/

namespace Sys2Proof.Machine

/-- The agents of the block (60_exceptions R640). -/
inductive Agent where
  | supervisor
  | signal
  | ctrl (k : Nat)
deriving DecidableEq, Repr, Inhabited

/-- The two phases of the DFU engine that raise errors of their own (60_exceptions R600). -/
inductive DfuPhase where
  | preWait
  | drain
deriving DecidableEq, Repr, Inhabited

/-- The configuration fields (10_state R21). -/
inductive CfgField where
  | busIndex
  | deviceAddress
  | vlim
  | tlim
  | socketPath
  | socketGroup
  | poweroff
deriving DecidableEq, Repr, Inhabited

/-- What a NotFound carries (60_exceptions R600): the key or the port. -/
inductive Missing where
  | key (k : Text)
  | port (p : Int)
deriving DecidableEq, Repr, Inhabited

/-- What a BadRequest carries (60_exceptions R600): the refused operand. -/
inductive Refused where
  | imageSize (n : Nat)
  | value (v : CfgValue)
  | delay (d : Int)
  | datetime (given : Text)
  | request (word : List Byte)
deriving DecidableEq, Repr, Inhabited

/-- What a ConfigInvalid carries (70_reset R703): the field, or the file the parser cannot read. -/
inductive BadConfig where
  | field (f : CfgField)
  | file
deriving DecidableEq, Repr, Inhabited

/-- The errors of the block (60_exceptions R600); no operation raises another. -/
inductive Err where
  | transport (e : TransportError)
  | dfuIdle (phase : DfuPhase)
  | dfuStatus (st : Byte)
  | dfuUnknown (st : Byte)
  | dfuTimeout (phase : DfuPhase) (block : Option Nat)
  | dfuSizeMismatch (written expected : Nat)
  | dfuCancelled (block : Nat)
  | notFound (what : Missing)
  | badRequest (what : Refused)
  | badValue (register value : Byte)
  | internal (cause : Err)
  | configInvalid (what : BadConfig)
  | busOpenFailed (e : Errno)
  | startupReadFailed (cause : TransportError)
  | poweroffLaunchFailed
deriving DecidableEq, Repr, Inhabited

/-- Why the machine stops: a rule of the spec was departed from (92 D46). -/
inductive Fault where
  /-- A register that holds no value was read, which 10_state R23 makes a fault of the model, "never a default value"; raised by
  the readers of `bus.dialect` (RDU16 and what is built on it) and `fsm.t0` (FSM_STEP in Blackout). Safe: no value is made up. -/
  | emptyRegister
  /-- `Lock()` by the present holder (10_state R30); raised by the lock operation. Safe. -/
  | reentrantLock
  /-- `Unlock()` by an agent that does not hold the lock (10_state R31); raised by the unlock operation. Safe. -/
  | unlockByNonHolder
  /-- A transaction by an agent that does not hold the lock (10_state R32); raised by every transaction. Safe. -/
  | transactionByNonHolder
  /-- A transaction before the bus was opened (70_reset R707, log 17); raised by every transaction. Safe. -/
  | busNotOpen
  /-- A typed writer's value is wider than its width (40_transport R215); raised by the typed writers. Safe. -/
  | valueTooWide
  /-- FRAME's index or length is out of its range (43_dfu_framer R352); raised by the framer. Safe. -/
  | frameOutOfRange
  /-- STARTUP on a block that has started or exited (70_reset R700, R708); raised by STARTUP. Safe. -/
  | alreadyStarted
deriving DecidableEq, Repr, Inhabited

/-- Why a step has no meaning. -/
inductive Refusal where
  /-- The operation has no meaning yet; raised by a rejected arm of `exec`, of which there is none. Safe. -/
  | notModelled (mnemonic : String)
  /-- The word on the operation port is no operation of the table (log 4); raised by `step`. Safe. -/
  | undecodable
deriving DecidableEq, Repr, Inhabited

/-- The configuration registers (10_state R21). -/
structure Cfg where
  busIndex : Nat
  deviceAddress : BitVec 7
  vlim : Rat
  tlim : Rat
  socketPath : Text
  socketGroup : Text
  poweroff : Text
deriving DecidableEq, Repr, Inhabited

/-- The states of the power state machine (10_state R21, 42_power_fsm section 3). -/
inductive FsmState where
  | start
  | ok
  | blackout
  | shutdown
  | dead
deriving DecidableEq, Repr, Inhabited

/-- The read dialects (00_scope section 1, 30_encoding R124). -/
inductive Dialect where
  | one
  | two
deriving DecidableEq, Repr, Inhabited

/-- The DFU session record (10_state R51, R26). -/
structure Session where
  totalSize : Nat
  blockSize : Nat
  totalBlocks : Nat
  next : Nat
  lastStatus : Option Byte
deriving DecidableEq, Repr, Inhabited

/-- The supervisor's control points (10_state R24). -/
inductive SupPoint where
  | init
  | sleeping
  | waitLock
  | sample
  | feed
  | step
  | exiting
  | exited
deriving DecidableEq, Repr, Inhabited

/-- The DFU engine's control points (10_state R24). -/
inductive DfuPoint where
  | validate
  | start
  | preWait (i : Nat)
  | send (i : Nat)
  | progress (i : Nat)
  | drain
  | commit
  | abort
  | done
deriving DecidableEq, Repr, Inhabited

/-- The signal input's control points (10_state R24). -/
inductive SigPoint where
  | idle
  | signalled
deriving DecidableEq, Repr, Inhabited

/-- A control-port agent's control points (10_state R24, 45_control R450). -/
inductive ReqPoint where
  | received
  | running
  | replied
deriving DecidableEq, Repr, Inhabited

/-- A hardware version (10_state R52). -/
structure HwVersion where
  major : Byte
  minor : Byte
  patch : Byte
deriving DecidableEq, Repr, Inhabited

/-- A firmware version and its release flag (10_state R52, 41_register_ops R251). -/
structure FwVersion where
  major : Byte
  minor : Byte
  patch : Byte
  alpha : Byte
  release : Bool
deriving DecidableEq, Repr, Inhabited

/-- The value an operation returns. -/
inductive Value where
  | unit
  | num (n : Nat)
  | bytes (bs : List Byte)
  | blocks (bs : List (List Byte))
  | bool (b : Bool)
  | hwVersion (v : HwVersion)
  | fwVersion (v : FwVersion)
  | power (p : PowerState)
  | snapshot (s : Snapshot)
  | config (c : Cfg)
  | cfgValue (v : CfgValue)
deriving DecidableEq, Repr, Inhabited

/-- The reply of a control request (45_control R450, R471): its result or one error. -/
inductive Reply where
  | value (v : Value)
  | error (e : Err)
deriving DecidableEq, Repr, Inhabited

/-- The outcome of an operation (10_state R25): a value, a reply sent on CTRL_RSP, or the error it raised. -/
inductive Result where
  | value (v : Value)
  | reply (r : Reply)
  | error (e : Err)
deriving DecidableEq, Repr, Inhabited

/-- A control-port agent (10_state R24, 60_exceptions R640). -/
structure Request where
  id : Nat
  word : List Byte
  point : ReqPoint
  reply : Option Reply
deriving DecidableEq, Repr, Inhabited

/-- What an agent does from its `Lock()` on (10_state R30, R24): its operation, with what it read before it waited. -/
inductive Hold where
  | startup
  | tick (vlim tlim : Rat)
  | exit (code : Fin 3)
  | upload (image : List Byte)
  | snapshot
  | getUsb (port : Int)
  | setUsb (port : Int) (on : Bool)
  | shutdown
  | standby (seconds : Nat)
  | uploadRequest (image : List Byte)
deriving DecidableEq, Repr, Inhabited

/-- An agent that waits at `Lock()` (10_state R30). -/
structure Waiter where
  agent : Agent
  hold : Hold
deriving DecidableEq, Repr, Inhabited

/-- What the ports show, in the notation of 30_encoding R131. -/
inductive Event where
  | read (r : Byte) (n : Nat) (result : Except Failure (List Byte))
  | write (r : Byte) (data : List Byte) (result : Except Failure Unit)
  | dialect1 (r : Byte) (result : Dialect1Resp)
  | sleep (ms : Nat)
  | lock (a : Agent)
  | unlock (a : Agent)
  | openBus (bus : Nat) (address : BitVec 7) (failed : Option Errno)
  | signal (k : SignalKind)
  | request (k : Nat) (word : List Byte)
  | reply (a : Agent) (r : Reply)
  | progress (a : Agent) (sent total : Nat)
  | poweroff (command : Text) (launched : Bool)
  | exit (code : Fin 3)
  | powerCut
deriving DecidableEq, Repr

/-- A memory of single bytes: (address, byte) with addresses strictly rising (log 27). -/
abbrev Memory := List Host.Cell

/-- The companion's watchdog as the block must assume it (60_exceptions R632). -/
inductive Watchdog where
  | unknown
  | disabled
  | armed (timeout deadline : Nat)
deriving DecidableEq, Repr, Inhabited

/-- The session of the reference companion (60_exceptions R633). -/
structure RefSession where
  size : Nat
  count : Nat
  preparing : Nat
  queueFull : Nat
  crcError : Bool
deriving DecidableEq, Repr, Inhabited

/-- The reference companion (60_exceptions R633): the registers a test names, the USB values, the poll counts a test
names (QueueFull polls after each block in turn, 0 beyond the list), and its session. -/
structure RefCompanion where
  named : List (Nat × List Byte)
  usb : List Byte
  preparingPolls : Nat
  queueFullPolls : List Nat
  session : Option RefSession
deriving DecidableEq, Repr, Inhabited

/-- What the model holds of the companion: the read-back values (60_exceptions R631), its watchdog (R632), and the
reference companion where a test uses it (R633). -/
structure Companion where
  mem : Memory
  wdog : Watchdog
  ref : Option RefCompanion
deriving DecidableEq, Repr, Inhabited

/-- The settled inputs, one queue per input port, and the counter of the opaque draws behind them (log 2). -/
structure Inputs where
  bus : List BusDraw
  dialect1 : List Dialect1Draw
  sleep : List Susp
  idle : List Susp
  late : List Nat
  opened : List OpenDraw
  boot : List BootInput
  launch : List Bool
  wall : List Rat
  agent : List Nat
  draws : Nat
deriving DecidableEq, Repr, Inhabited

/-- What the open bus handle was opened with (10_state R55, 45_control R462). -/
structure Handle where
  bus : Nat
  address : BitVec 7
deriving DecidableEq, Repr, Inhabited

/-- The machine. INVENTORY.md's State heading gives the rule and the reset value of every field. -/
structure State where
  -- block state registers (10_state R21)
  cfg : Cfg
  fsm : FsmState
  t0 : Option Nat
  step1Done : Bool
  lastFed : Option Nat
  busOpen : Bool
  dialect : Option Dialect
  holder : Option Agent
  measLast : Option Snapshot
  intent : Bool
  sigCancel : Bool
  session : Option Session
  exitCode : Option (Fin 3)
  -- control points and agents (10_state R24, 60_exceptions R640)
  pcSup : SupPoint
  pcDfu : List (Agent × DfuPoint)
  pcSig : SigPoint
  reqs : List Request
  nextReq : Nat
  up : Bool
  waiters : List Waiter
  replies : List (Agent × Reply)
  -- what the rules imply
  handle : Option Handle
  dfuImage : List Byte
  supErr : Option Err
  supWake : Option Nat
  now : Nat
  result : Option Result
  -- the companion (60_exceptions R630 to R639)
  comp : Companion
  -- parameters (00_scope section 3)
  par : Params
  -- the model's own
  cur : Agent
  opPort : List OpWord
  inp : Inputs
  trace : List (Nat × Event)
deriving DecidableEq, Repr

/-- `/run/halpid/halpid.sock` (00_scope section 3, `DEFAULT_SOCKET`). -/
def defaultSocket : Text :=
  [0x2F, 0x72, 0x75, 0x6E, 0x2F, 0x68, 0x61, 0x6C, 0x70, 0x69, 0x64, 0x2F,
   0x68, 0x61, 0x6C, 0x70, 0x69, 0x64, 0x2E, 0x73, 0x6F, 0x63, 0x6B]

/-- `adm` (00_scope section 3, `DEFAULT_GROUP`). -/
def defaultGroup : Text := [0x61, 0x64, 0x6D]

/-- The built-in configuration (70_reset R704). -/
def Cfg.builtIn (par : Params) : Cfg :=
  { busIndex := par.defaultBus
    deviceAddress := par.defaultDevAddr
    vlim := par.defaultVlim
    tlim := par.defaultTlim
    socketPath := defaultSocket
    socketGroup := defaultGroup
    poweroff := par.defaultPoweroff }

/-- No settled input: every input is an open draw. -/
def Inputs.unsettled : Inputs :=
  { bus := [], dialect1 := [], sleep := [], idle := [], late := [], opened := [], boot := [], launch := [], wall := [],
    agent := [], draws := 0 }

/-- The block before STARTUP, every register of 10_state R21 at its reset value, with given parameters. -/
def State.initial (par : Params) : State :=
  { cfg := Cfg.builtIn par
    fsm := .start
    t0 := none
    step1Done := false
    lastFed := none
    busOpen := false
    dialect := none
    holder := none
    measLast := none
    intent := false
    sigCancel := false
    session := none
    exitCode := none
    pcSup := .init
    pcDfu := []
    pcSig := .idle
    reqs := []
    nextReq := 0
    up := false
    waiters := []
    replies := []
    handle := none
    dfuImage := []
    supErr := none
    supWake := none
    now := 0
    result := none
    comp := { mem := [], wdog := .unknown, ref := none }
    par := par
    cur := .supervisor
    opPort := []
    inp := Inputs.unsettled
    trace := [] }

/-- The machine right after reset (10_state R21, 70_reset R706): STARTUP is its first step. -/
def State.reset : State := State.initial Config.params

end Sys2Proof.Machine
end

