-- ==== Sys2Proof/Machine/Flags.lean ====
section
/-! DEFINITION. The status values a rule can test (10_state R25): the class of a failure, error codes, the classes of the DFU status byte. The block has no condition codes. -/

namespace Sys2Proof.Machine

/-- An attempt failure is fatal exactly when it is `Device(ENXIO)` or `Device(ENODEV)` (40_transport R202). -/
def failureFatal : Failure → Bool
  | .device .enxio => true
  | .device .enodev => true
  | .device (.other _) => false
  | .shortRead _ _ => false
  | .shortWrite => false

/-- A transport error is fatal when it is one fatal failure; `Retry(exhausted)` is transient at every caller
(40_transport R204). -/
def transportFatal : TransportError → Bool
  | .single f => failureFatal f
  | .retry _ => false

/-- The code of a failure (60_exceptions R600). -/
def failureCode : Failure → Nat
  | .device _ => 0x01
  | .shortRead _ _ => 0x02
  | .shortWrite => 0x03

/-- The code of an error (60_exceptions R600). -/
def errCode : Err → Nat
  | .transport (.single f) => failureCode f
  | .transport (.retry _) => 0x04
  | .dfuIdle _ => 0x10
  | .dfuStatus _ => 0x11
  | .dfuUnknown _ => 0x12
  | .dfuTimeout _ _ => 0x13
  | .dfuSizeMismatch _ _ => 0x14
  | .dfuCancelled _ => 0x15
  | .notFound _ => 0x20
  | .badRequest _ => 0x21
  | .badValue _ _ => 0x22
  | .internal _ => 0x23
  | .configInvalid _ => 0x30
  | .busOpenFailed _ => 0x31
  | .startupReadFailed _ => 0x32
  | .poweroffLaunchFailed => 0x33

/-- The states in which a fatal transport error of the supervisor exits (42_power_fsm R333). -/
def exitsOnFatal : FsmState → Bool
  | .start => true
  | .ok => true
  | .blackout => true
  | .shutdown => false
  | .dead => false

/-- What a status byte means to a waiting engine. -/
inductive PollClass where
  | ready
  | wait (ms : Nat)
  | fatal (e : Err)
deriving DecidableEq, Repr, Inhabited

/-- `classify(st)` in the pre-block wait (44_dfu_engine R387). -/
def classify (st : Byte) : PollClass :=
  if st.toNat = 0 then .fatal (.dfuIdle .preWait)
  else if st.toNat = 1 then .wait 500
  else if st.toNat = 2 then .ready
  else if st.toNat = 3 then .wait 100
  else if st.toNat = 4 then .ready
  else if st.toNat ≤ 8 then .fatal (.dfuStatus st)
  else .fatal (.dfuUnknown st)

/-- `classify_drain(st)` (44_dfu_engine R394): the error, or none where the drain goes on. -/
def classifyDrain (st : Byte) : Option Err :=
  if st.toNat = 0 then some (.dfuIdle .drain)
  else if st.toNat ≤ 4 then none
  else if st.toNat ≤ 8 then some (.dfuStatus st)
  else some (.dfuUnknown st)

/-- How the control port replies an error (45_control R471). -/
def mapError : Err → Err
  | .notFound w => .notFound w
  | .badRequest w => .badRequest w
  | .transport e => .internal (.transport e)
  | .dfuIdle p => .internal (.dfuIdle p)
  | .dfuStatus st => .internal (.dfuStatus st)
  | .dfuUnknown st => .internal (.dfuUnknown st)
  | .dfuTimeout p b => .internal (.dfuTimeout p b)
  | .dfuSizeMismatch w x => .internal (.dfuSizeMismatch w x)
  | .dfuCancelled b => .internal (.dfuCancelled b)
  | .badValue r v => .internal (.badValue r v)
  | .internal e => .internal e
  | .configInvalid f => .internal (.configInvalid f)
  | .busOpenFailed e => .internal (.busOpenFailed e)
  | .startupReadFailed e => .internal (.startupReadFailed e)
  | .poweroffLaunchFailed => .internal .poweroffLaunchFailed

end Sys2Proof.Machine
end

