-- ==== Sys2Proof/Machine/Operands.lean ====
section
/-! DEFINITION. Operand forms: versions, scaled values, USB ports, configuration keys and their legal values, standby delays, boot configuration. -/

namespace Sys2Proof.Machine

/-- `MAX` of a 4-byte delay (00_scope section 3, `STANDBY_MAX`). -/
def standbyMax : Nat := 2 ^ 32 - 1

/-- The scaled decode `raw · FS / 65536`, exact (00_scope R11, 30_encoding R107). -/
def scaled (raw : Half) (fs : Rat) : Rat := (raw.toNat : Rat) * fs / 65536

/-- The decoded view of a snapshot (10_state R50). -/
structure Decoded where
  vin : Rat
  vscap : Rat
  iin : Rat
  tmcuKelvin : Rat
  tpcbKelvin : Rat
  pstate : PowerState
deriving DecidableEq, Repr

/-- The decoded view of a snapshot (10_state R50). -/
def decodedView (par : Params) (s : Snapshot) : Decoded :=
  { vin := scaled s.vin par.fsVin
    vscap := scaled s.vscap par.fsVscap
    iin := scaled s.iin par.fsIin
    tmcuKelvin := scaled s.tmcu par.fsTmcu
    tpcbKelvin := scaled s.tpcb par.fsTpcb
    pstate := s.pstate }

/-- The decoded power-on threshold (41_register_ops R254). -/
def ponThreshold (par : Params) (raw : Half) : Rat := scaled raw par.fsPon

/-- A byte of a string, for reads whose length the transaction has already fixed. -/
def byteAt (bs : List Byte) (i : Nat) : Byte := bs.getD i 0

/-- The hardware version of three bytes (41_register_ops R250). -/
def hwVersionOf (bs : List Byte) : HwVersion := ⟨byteAt bs 0, byteAt bs 1, byteAt bs 2⟩

/-- The firmware version of four bytes; alpha 255 is a release (41_register_ops R251). -/
def fwVersionOf (bs : List Byte) : FwVersion :=
  ⟨byteAt bs 0, byteAt bs 1, byteAt bs 2, byteAt bs 3, byteAt bs 3 == 255#8⟩

/-- The dialect of a major number (70_reset R701). -/
def dialectOf (major : Byte) : Dialect := if major.toNat ≤ 1 then .one else .two

/-- A legal USB port (41_register_ops R265). -/
def portLegal (p : Int) : Bool := decide (0 ≤ p) && decide (p ≤ 3)

/-- The USB register of a port, `0x26 + p` (40_transport R221). -/
def usbReg (p : Int) : Byte := BitVec.ofNat 8 (0x26 + p.toNat)

/-- The configuration keys by name (45_control R460), as ASCII bytes. -/
def keyTable : List (Text × CfgField) :=
  [ ([0x69, 0x32, 0x63, 0x5F, 0x62, 0x75, 0x73], .busIndex),
    ([0x69, 0x32, 0x63, 0x5F, 0x61, 0x64, 0x64, 0x72], .deviceAddress),
    ([0x62, 0x6C, 0x61, 0x63, 0x6B, 0x6F, 0x75, 0x74, 0x5F, 0x76, 0x6F, 0x6C, 0x74, 0x61, 0x67, 0x65, 0x5F,
      0x6C, 0x69, 0x6D, 0x69, 0x74], .vlim),
    ([0x62, 0x6C, 0x61, 0x63, 0x6B, 0x6F, 0x75, 0x74, 0x5F, 0x74, 0x69, 0x6D, 0x65, 0x5F,
      0x6C, 0x69, 0x6D, 0x69, 0x74], .tlim),
    ([0x73, 0x6F, 0x63, 0x6B, 0x65, 0x74], .socketPath),
    ([0x73, 0x6F, 0x63, 0x6B, 0x65, 0x74, 0x5F, 0x67, 0x72, 0x6F, 0x75, 0x70], .socketGroup),
    ([0x70, 0x6F, 0x77, 0x65, 0x72, 0x6F, 0x66, 0x66], .poweroff) ]

/-- The field a key names, if the key is in the table (45_control R452, R453). -/
def fieldOfKey (key : Text) : Option CfgField := keyTable.lookup key

/-- A value read as a natural number (45_control R460). A rational is none, also where it is whole (DESIGN CHOICE, log 24). -/
def asNat : CfgValue → Option Nat
  | .int v => if 0 ≤ v then some v.toNat else none
  | .rat _ => none
  | .text _ => none

/-- A value read as a device address, an integer in 0x08..0x77 (70_reset R703, 45_control R460). A rational is none, also where it is
whole (DESIGN CHOICE, log 24). -/
def asAddress : CfgValue → Option (BitVec 7)
  | .int v => if 0x08 ≤ v ∧ v ≤ 0x77 then some (BitVec.ofNat 7 v.toNat) else none
  | .rat _ => none
  | .text _ => none

/-- A value read as a rational; a whole number is one (95 K7, log 24). -/
def asRat : CfgValue → Option Rat
  | .int v => some (v : Rat)
  | .rat v => some v
  | .text _ => none

/-- A value read as a rational in an inclusive range. -/
def asRatIn (lo hi : Rat) (v : CfgValue) : Option Rat :=
  match asRat v with
  | some q => if lo ≤ q ∧ q ≤ hi then some q else none
  | none => none

/-- A value read as a string. -/
def asText : CfgValue → Option Text
  | .int _ => none
  | .rat _ => none
  | .text t => some t

/-- The configuration with one field set, if the value is of its type and in its range (45_control R453, R460). -/
def setField (c : Cfg) (f : CfgField) (v : CfgValue) : Option Cfg :=
  match f with
  | .busIndex => (asNat v).map fun x => { c with busIndex := x }
  | .deviceAddress => (asAddress v).map fun x => { c with deviceAddress := x }
  | .vlim => (asRatIn 0 30 v).map fun x => { c with vlim := x }
  | .tlim => (asRatIn (1 / 10) 600 v).map fun x => { c with tlim := x }
  | .socketPath => (asText v).map fun x => { c with socketPath := x }
  | .socketGroup => (asText v).map fun x => { c with socketGroup := x }
  | .poweroff => (asText v).map fun x => { c with poweroff := x }

/-- The value of one field (45_control R452). -/
def getField (c : Cfg) : CfgField → CfgValue
  | .busIndex => .int c.busIndex
  | .deviceAddress => .int c.deviceAddress.toNat
  | .vlim => .rat c.vlim
  | .tlim => .rat c.tlim
  | .socketPath => .text c.socketPath
  | .socketGroup => .text c.socketGroup
  | .poweroff => .text c.poweroff

/-- `VALID(cfg)` (70_reset R703). -/
def cfgValid (c : Cfg) : Bool :=
  decide (0 ≤ c.vlim) && decide (c.vlim ≤ 30) && decide (1 / 10 ≤ c.tlim) && decide (c.tlim ≤ 600) &&
    decide (0x08 ≤ c.deviceAddress.toNat) && decide (c.deviceAddress.toNat ≤ 0x77)

/-- `/etc/halpid/halpid.conf` (70_reset R704). -/
def defaultConfPath : Text :=
  [0x2F, 0x65, 0x74, 0x63, 0x2F, 0x68, 0x61, 0x6C, 0x70, 0x69, 0x64, 0x2F,
   0x68, 0x61, 0x6C, 0x70, 0x69, 0x64, 0x2E, 0x63, 0x6F, 0x6E, 0x66]

/-- The configuration file STARTUP reads: the one `--conf` names, else the default path (70_reset R704, log 25). -/
def confFileOf (b : BootInput) : ConfFile :=
  (b.files.lookup (b.conf.getD defaultConfPath)).getD .absent

/-- A configuration source that gives nothing. -/
def RawCfg.empty : RawCfg := ⟨none, none, none, none, none, none, none⟩

/-- The first of flag and file that gives a value (70_reset R704). -/
def firstOf (flag file : Option CfgValue) : Option CfgValue :=
  match flag with
  | some v => some v
  | none => file

/-- The values given from outside, field by field, in the order of 10_state R21 (70_reset R704). -/
def givenFields (flags file : RawCfg) : List (CfgField × Option CfgValue) :=
  [ (.busIndex, firstOf flags.busIndex file.busIndex),
    (.deviceAddress, firstOf flags.deviceAddress file.deviceAddress),
    (.vlim, firstOf flags.vlim file.vlim),
    (.tlim, firstOf flags.tlim file.tlim),
    (.socketPath, firstOf flags.socketPath file.socketPath),
    (.socketGroup, firstOf flags.socketGroup file.socketGroup),
    (.poweroff, firstOf flags.poweroff file.poweroff) ]

/-- Given values over a configuration; where several are invalid, the first in the order of 10_state R21 is reported
(70_reset R703, 60_exceptions R600; the order is DESIGN CHOICE, log 45). -/
def applyGiven (c : Cfg) : List (CfgField × Option CfgValue) → Except BadConfig Cfg
  | [] => .ok c
  | (_, none) :: rest => applyGiven c rest
  | (f, some v) :: rest =>
    match setField c f v with
    | some c' => applyGiven c' rest
    | none => .error (.field f)

/-- The first field of a configuration outside its range (70_reset R703), in the order Vlim, Tlim, address (DESIGN CHOICE, log
45). -/
def rangeError (c : Cfg) : Option CfgField :=
  if decide (0 ≤ c.vlim) && decide (c.vlim ≤ 30) then
    if decide (1 / 10 ≤ c.tlim) && decide (c.tlim ≤ 600) then
      if decide (0x08 ≤ c.deviceAddress.toNat) && decide (c.deviceAddress.toNat ≤ 0x77) then none
      else some .deviceAddress
    else some .tlim
  else some .vlim

/-- `CONFIG(flags, file, defaults)` and `VALID` (70_reset R700, R703, R704). What `ConfigInvalid` names where several things are
invalid is in no rule (60_exceptions R600): a file that cannot be read, then the given values, then the resolved ones (DESIGN
CHOICE, log 45). -/
def configOf (par : Params) (b : BootInput) : Except BadConfig Cfg :=
  match confFileOf b with
  | .unreadable => .error .file
  | .absent => finishConfig (applyGiven (Cfg.builtIn par) (givenFields b.flags RawCfg.empty))
  | .values file => finishConfig (applyGiven (Cfg.builtIn par) (givenFields b.flags file))
where
  /-- The range test of the resolved configuration. -/
  finishConfig : Except BadConfig Cfg → Except BadConfig Cfg
    | .error e => .error e
    | .ok c =>
      match rangeError c with
      | none => .ok c
      | some f => .error (.field f)

/-- `clamp(v)` to `[0, 2^32 − 1]` (45_control R469). -/
def clampDelay (v : Int) : Nat := (max 0 (min v (standbyMax : Int))).toNat

/-- The delay of an absolute wake time `w` at wall-clock time `h`: `floor((w − h) / 1 s)`, then clamped
(45_control R468, log 23). -/
def datetimeDelay (w h : Rat) : Nat := clampDelay (w - h).floor

/-- An image the engine accepts (44_dfu_engine R381). -/
def imageSizeLegal (n : Nat) : Bool := decide (1 ≤ n) && decide (n ≤ maxImage)

/-- What a control request replies without the lock and without a transaction, and the configuration after it; `none` where
it goes on to the bus (45_control R452, R453, R463, R464, R467, R468, R471). -/
def immediateReply (c : Cfg) : Instr → Option (Reply × Cfg)
  | .cGetConfig none => some (.value (.config c), c)
  | .cGetConfig (some key) =>
    match fieldOfKey key with
    | some f => some (.value (.cfgValue (getField c f)), c)
    | none => some (.error (.notFound (.key key)), c)
  | .cSetConfig key v =>
    match fieldOfKey key with
    | none => some (.error (.notFound (.key key)), c)
    | some f =>
      match setField c f v with
      | some c' => some (.value .unit, c')
      | none => some (.error (.badRequest (.value v)), c)
  | .cGetUsb p => if portLegal p then none else some (.error (.notFound (.port p)), c)
  | .cSetUsb p _ => if portLegal p then none else some (.error (.notFound (.port p)), c)
  | .cStandby (.delay d) => if d < 0 then some (.error (.badRequest (.delay d)), c) else none
  | .cStandby (.datetime _) => none
  | .cStandby (.other t) => some (.error (.badRequest (.datetime t)), c)
  | .cUpload image =>
    if imageSizeLegal image.length then none else some (.error (.badRequest (.imageSize image.length)), c)
  | _ => none

/-- The requests the control port accepts (30_encoding R130). -/
def isControl : Instr → Bool
  | .cSnapshot => true
  | .cGetConfig _ => true
  | .cSetConfig _ _ => true
  | .cGetUsb _ => true
  | .cSetUsb _ _ => true
  | .cShutdown => true
  | .cStandby _ => true
  | .cUpload _ => true
  | _ => false

/-- The request a word on CTRL_REQ holds; any other code, and a word that is none, is refused (30_encoding R130). -/
def decodeRequest (word : List Byte) : Option Instr :=
  match decode ⟨.code, word⟩ with
  | .ok i => if isControl i then some i else none
  | .error _ => none

end Sys2Proof.Machine
end

