-- ==== Sys2Proof/Machine/Companion.lean ====
section
/-! DEFINITION. The companion as far as the rules constrain it: read-back memory (60_exceptions R631), watchdog (R632) and the reference companion (R633). -/

namespace Sys2Proof.Machine

/-- The byte an address is known to hold; an unlisted address has no value and its read is a draw (log 27). -/
def Memory.byteAt : Memory → Nat → Option Byte
  | [], _ => none
  | (b, v) :: rest, a => if a = b then some v else Memory.byteAt rest a

/-- The memory with one address holding a known byte; addresses stay strictly rising. -/
def Memory.put : Memory → Nat → Byte → Memory
  | [], a, v => [(a, v)]
  | (b, w) :: rest, a, v =>
    if a < b then (a, v) :: (b, w) :: rest
    else if a = b then (a, v) :: rest
    else (b, w) :: Memory.put rest a v

/-- The memory with one address holding no known byte. -/
def Memory.forget : Memory → Nat → Memory
  | [], _ => []
  | (b, w) :: rest, a => if a = b then rest else (b, w) :: Memory.forget rest a

/-- Every address is above a bound and they rise strictly. -/
def Memory.risesFrom : Option Nat → Memory → Bool
  | _, [] => true
  | none, (b, _) :: rest => Memory.risesFrom (some b) rest
  | some a, (b, _) :: rest => decide (a < b) && Memory.risesFrom (some b) rest

/-- The canonical form: addresses strictly rising (no entry can equal what an unlisted address reads as, for that is no
value). -/
def Memory.wf (m : Memory) : Bool := Memory.risesFrom none m

/-- A USB enable register, the only ones with a read-back guarantee (60_exceptions R631). -/
def isUsbReg (r : Byte) : Bool := decide (0x26 ≤ r.toNat) && decide (r.toNat ≤ 0x29)

/-- What a write attempt leaves known (60_exceptions R631, log 13): a successful USB write of 0 or 1 is known, any other
write attempt to a USB register, be it failed or cut short by a host power cut, leaves its value unknown. -/
def noteWrite (m : Memory) (r : Byte) (data : List Byte) (ok : Bool) : Memory :=
  if isUsbReg r then
    if ok && (data == [0] || data == [1]) then m.put r.toNat (byteAt data 0) else m.forget r.toNat
  else m

/-- A passed deadline (60_exceptions R632, log 14). -/
def Watchdog.expired : Watchdog → Nat → Bool
  | .unknown, _ => false
  | .disabled, _ => false
  | .armed _ deadline, now => decide (deadline < now)

/-- When a passed deadline cuts host power, seen from `now`: in the first millisecond after it (60_exceptions R632, log 14,
log 46). -/
def Watchdog.lapse : Watchdog → Nat → Nat
  | .unknown, now => now
  | .disabled, now => now
  | .armed _ deadline, now => max now (deadline + 1)

/-- Successful traffic at `now` when any traffic restarts the deadline (60_exceptions R632). -/
def Watchdog.touch (anyTraffic : Bool) : Watchdog → Nat → Watchdog
  | .armed timeout deadline, now => if anyTraffic then .armed timeout (now + 10 * timeout) else .armed timeout deadline
  | .unknown, _ => .unknown
  | .disabled, _ => .disabled

/-- What a write attempt does to the watchdog (60_exceptions R632): a successful 2-byte write of T to 0x10 arms it for
`10·T` ms or disables it; a write attempt to 0x10 that failed or had another width leaves it unknown (log 13); other
traffic may restart it. -/
def Watchdog.afterWrite (anyTraffic : Bool) (w : Watchdog) (now : Nat) (r : Byte) (data : List Byte) (ok : Bool) :
    Watchdog :=
  if r.toNat = 0x10 then
    if ok && data.length == 2 then
      if decBe data = 0 then .disabled else .armed (decBe data) (now + 10 * decBe data)
    else .unknown
  else if ok then w.touch anyTraffic now else w

/-- The oracle's answer to a read attempt: drawn (60_exceptions R630), but for a USB register whose value is known
(R631). Bytes beyond the length asked for are not read (log 38); a read of no bytes cannot be short of any (log 30). -/
def oracleRead (m : Memory) (r : Byte) (n : Nat) : BusResp → Except Failure (List Byte)
  | .device e => .error (.device e)
  | .short => if n = 0 then .ok [] else .error (.shortRead n 0)
  | .data bs =>
    if bs.length < n then .error (.shortRead n bs.length)
    else if isUsbReg r && n == 1 then
      match m.byteAt r.toNat with
      | some v => .ok [v]
      | none => .ok (bs.take n)
    else .ok (bs.take n)

/-- The oracle's answer to a write attempt (60_exceptions R630). -/
def oracleWrite : BusResp → Except Failure Unit
  | .data _ => .ok ()
  | .short => .error .shortWrite
  | .device e => .error (.device e)

/-- The status byte of the reference companion and its session after the poll (60_exceptions R633). After the B-th block it
reads 4 at once: QueueFull polls that a test names after that block are dropped. A good frame that comes while polls are left keeps
the Preparing ones, which are read first, and drops an earlier block's QueueFull ones (`refBlock`). Both are the model's choice
(DESIGN CHOICE, log 21). -/
def refStatus (c : RefCompanion) : Byte × RefCompanion :=
  match c.session with
  | none => (0, c)
  | some s =>
    if s.crcError then (5, c)
    else if s.count = blockCount s.size then (4, c)
    else if 0 < s.preparing then (1, { c with session := some { s with preparing := s.preparing - 1 } })
    else if 0 < s.queueFull then (3, { c with session := some { s with queueFull := s.queueFull - 1 } })
    else (2, c)

/-- The drawn bytes of an answer, if it has any. -/
def respBytes : BusResp → List Byte
  | .data bs => bs
  | .short => []
  | .device _ => []

/-- `n` bytes that no rule and no test names: the drawn ones, and free ones where the draw gives too few (log 21). -/
def refFill (r : Byte) (n : Nat) (bs : List Byte) : List Byte :=
  (List.range n).map fun i => bs.getD i (Config.refByte r i)

/-- The reference companion's answer to a read, always of `n` bytes (60_exceptions R633). Outside a session 0x42 reads 0, the
model's choice (DESIGN CHOICE, log 21). -/
def refRead (c : RefCompanion) (r : Byte) (n : Nat) (drawn : BusResp) : List Byte × RefCompanion :=
  if r.toNat = 0x41 ∧ n = 1 then ([(refStatus c).1], (refStatus c).2)
  else if r.toNat = 0x42 ∧ n = 2 then
    (be16 (match c.session with | some s => s.count | none => 0), c)
  else if isUsbReg r && n == 1 then ([c.usb.getD (r.toNat - 0x26) 0], c)
  else
    match c.named.lookup r.toNat with
    | some bs => if bs.length = n then (bs, c) else (refFill r n (respBytes drawn), c)
    | none => (refFill r n (respBytes drawn), c)

/-- What a write to 0x43 does to the reference companion's session (60_exceptions R633). One whose first four bytes are not the
CRC of the rest is a CRC error; one that has the CRC and is no frame of 43_dfu_framer R352, or not the next block's, is ignored;
the next block's takes the place of QueueFull polls still left and leaves the Preparing ones (DESIGN CHOICE, log 21). -/
def refBlock (c : RefCompanion) (s : RefSession) (data : List Byte) : RefSession :=
  if data.take 4 ≠ be32 (crc32 (data.drop 4)).toNat then { s with crcError := true }
  else if 9 ≤ data.length ∧ decBe ((data.drop 4).take 2) = s.count ∧ decBe ((data.drop 6).take 2) = data.length - 8 ∧
      data.length - 8 = min blockSize (s.size - blockSize * s.count) then
    { s with count := s.count + 1, queueFull := c.queueFullPolls.getD s.count 0 }
  else s

/-- The reference companion after a write, which it always answers with success (60_exceptions R633). A write to a USB register
or to 0x40 of another width than its own (20_memory R74), and a write to 0x43 with no session, a frame with a wrong CRC among them,
leave it as it was (DESIGN CHOICE, log 21). -/
def refWrite (c : RefCompanion) (r : Byte) (data : List Byte) : RefCompanion :=
  if isUsbReg r ∧ data.length = 1 then { c with usb := c.usb.set (r.toNat - 0x26) (byteAt data 0) }
  else if r.toNat = 0x40 ∧ data.length = 4 then
    { c with session := some { size := decBe data, count := 0, preparing := c.preparingPolls, queueFull := 0,
                               crcError := false } }
  else if r.toNat = 0x43 then { c with session := c.session.map fun s => refBlock c s data }
  else if r.toNat = 0x44 ∨ r.toNat = 0x45 then { c with session := none }
  else c

/-- The outcome of a read attempt and the companion after it. -/
def Companion.answerRead (c : Companion) (anyTraffic : Bool) (now : Nat) (r : Byte) (n : Nat) (resp : BusResp) :
    Except Failure (List Byte) × Companion :=
  match c.ref with
  | none => settle (oracleRead c.mem r n resp) c
  | some p => settle (.ok (refRead p r n resp).1) { c with ref := some (refRead p r n resp).2 }
where
  /-- A successful read is traffic. -/
  settle (res : Except Failure (List Byte)) (c : Companion) : Except Failure (List Byte) × Companion :=
    match res with
    | .ok bs => (.ok bs, { c with wdog := c.wdog.touch anyTraffic now })
    | .error f => (.error f, c)

/-- Whether an attempt succeeded. -/
def succeeded : Except Failure Unit → Bool
  | .ok _ => true
  | .error _ => false

/-- The outcome of a write attempt and the companion after it. -/
def Companion.answerWrite (c : Companion) (anyTraffic : Bool) (now : Nat) (r : Byte) (data : List Byte)
    (resp : BusResp) : Except Failure Unit × Companion :=
  match c.ref with
  | none => (oracleWrite resp, settle (succeeded (oracleWrite resp)) c)
  | some p => (.ok (), settle true { c with ref := some (refWrite p r data) })
where
  /-- What the attempt leaves known of the companion. -/
  settle (ok : Bool) (c : Companion) : Companion :=
    { c with mem := noteWrite c.mem r data ok, wdog := c.wdog.afterWrite anyTraffic now r data ok }

end Sys2Proof.Machine
end

