-- ==== Sys2Proof/Machine/Ops.lean ====
section
/-! DEFINITION. The named operations the meanings are written over: errors and their handlers, draws, suspension points, the lock, other agents' runs, transaction attempts and the retry loop, sleeps, replies. -/

namespace Sys2Proof.Machine

/-- How an operation can end early: an error of the block (60_exceptions R610), a wait at `Lock()` (10_state R30), a host
power cut (60_exceptions R639), or a fault of the model (92 D46). -/
inductive Exc where
  | raise (e : Err)
  | wait
  | cut
  | stop (f : Fault)
deriving DecidableEq, Repr

/-- An operation of an agent: it acts on the state and gives a value or ends early. The state it leaves when it ends early
is the state it had reached: there is no rollback (60_exceptions R610). -/
abbrev Op (α : Type) := EStateM Exc State α

/-! Errors: entry and handling. -/

/-- `raise e` (00_scope R9, 60_exceptions R610): the operation ends here, what it did stays done. -/
def raise {α : Type} (e : Err) : Op α := throw (.raise e)

/-- A fault of the model (10_state R23). -/
def stop {α : Type} (f : Fault) : Op α := throw (.stop f)

/-- `try`: a raised error becomes a value (42_power_fsm R301); nothing else is caught. -/
def attempt {α : Type} (x : Op α) : Op (Except Err α) := fun s =>
  match x s with
  | .ok a t => .ok (.ok a) t
  | .error (.raise e) t => .ok (.error e) t
  | .error .wait t => .error .wait t
  | .error .cut t => .error .cut t
  | .error (.stop f) t => .error (.stop f) t

/-- `try` around an operation that raises only transport errors (41_register_ops). -/
def attemptTransport {α : Type} (x : Op α) : Op (Except TransportError α) := do
  match ← attempt x with
  | .ok a => return .ok a
  | .error (.transport e) => return .error e
  | .error e => raise e

/-! Ports and plain updates. -/

/-- An event on an output port or the bus, stamped with the clock (10_state R40). -/
def State.emit (s : State) (e : Event) : State := { s with trace := s.trace ++ [(s.now, e)] }

/-- `Emit(e)` (00_scope R9). -/
def emit (e : Event) : Op Unit := modify fun s => s.emit e

/-- Sets the supervisor's control point (10_state R24). -/
def setSup (p : SupPoint) : Op Unit := modify fun s => { s with pcSup := p }

/-- The control points of the DFU engines, one per agent that runs an upload, with one of them set (10_state R24). -/
def setPoint : List (Agent × DfuPoint) → Agent → DfuPoint → List (Agent × DfuPoint)
  | [], a, p => [(a, p)]
  | (b, q) :: rest, a, p => if b = a then (a, p) :: rest else (b, q) :: setPoint rest a p

/-- The DFU engine of agent `a` is at `p` (10_state R24). -/
def State.dfuAt (s : State) (a : Agent) (p : DfuPoint) : State := { s with pcDfu := setPoint s.pcDfu a p }

/-- Sets the control point of the running agent's DFU engine (10_state R24). Outside an upload R24 gives the agent no engine: that
one is then made for it, and stays at the point, is the model's choice (DESIGN CHOICE, log 48). -/
def setDfu (p : DfuPoint) : Op Unit := modify fun s => s.dfuAt s.cur p

/-- `Now()` (00_scope R6). -/
def clock : Op Nat := do
  let s ← get
  return s.now

/-! Draws: the head of the port's queue of settled inputs, else the open draw at the counter (log 2). -/

/-- The next answer of the bus. -/
def popBus : Op BusDraw := fun s =>
  match s.inp.bus with
  | d :: ds => .ok d { s with inp := { s.inp with bus := ds } }
  | [] => .ok (Config.drawBus s.inp.draws) { s with inp := { s.inp with draws := s.inp.draws + 1 } }

/-- The next unfixed dialect-1 read. -/
def popDialect1 : Op Dialect1Draw := fun s =>
  match s.inp.dialect1 with
  | d :: ds => .ok d { s with inp := { s.inp with dialect1 := ds } }
  | [] => .ok (Config.drawDialect1 s.inp.draws) { s with inp := { s.inp with draws := s.inp.draws + 1 } }

/-- The next sleep. -/
def popSleep : Op Susp := fun s =>
  match s.inp.sleep with
  | d :: ds => .ok d { s with inp := { s.inp with sleep := ds } }
  | [] => .ok (Config.drawSleep s.inp.draws) { s with inp := { s.inp with draws := s.inp.draws + 1 } }

/-- The next idle wait. -/
def popIdle : Op Susp := fun s =>
  match s.inp.idle with
  | d :: ds => .ok d { s with inp := { s.inp with idle := ds } }
  | [] => .ok (Config.drawIdle s.inp.draws) { s with inp := { s.inp with draws := s.inp.draws + 1 } }

/-- The next lateness of a tick, at most `TICK_SLACK_MS` (42_power_fsm R300, log 33). -/
def popLate : Op Nat := fun s =>
  match s.inp.late with
  | d :: ds => .ok (min d s.par.tickSlackMs) { s with inp := { s.inp with late := ds } }
  | [] => .ok (min (Config.drawLate s.inp.draws) s.par.tickSlackMs)
      { s with inp := { s.inp with draws := s.inp.draws + 1 } }

/-- The next result of opening the bus. -/
def popOpen : Op OpenDraw := fun s =>
  match s.inp.opened with
  | d :: ds => .ok d { s with inp := { s.inp with opened := ds } }
  | [] => .ok (Config.drawOpen s.inp.draws) { s with inp := { s.inp with draws := s.inp.draws + 1 } }

/-- The next boot input. -/
def popBoot : Op BootInput := fun s =>
  match s.inp.boot with
  | d :: ds => .ok d { s with inp := { s.inp with boot := ds } }
  | [] => .ok (Config.drawBoot s.inp.draws) { s with inp := { s.inp with draws := s.inp.draws + 1 } }

/-- The next POWEROFF_RESULT. -/
def popLaunch : Op Bool := fun s =>
  match s.inp.launch with
  | d :: ds => .ok d { s with inp := { s.inp with launch := ds } }
  | [] => .ok (Config.drawLaunch s.inp.draws) { s with inp := { s.inp with draws := s.inp.draws + 1 } }

/-- The next wall-clock time. -/
def popWall : Op Rat := fun s =>
  match s.inp.wall with
  | d :: ds => .ok d { s with inp := { s.inp with wall := ds } }
  | [] => .ok (Config.drawWall s.inp.draws) { s with inp := { s.inp with draws := s.inp.draws + 1 } }

/-- The next choice among the agents that can run. -/
def popAgent : Op Nat := fun s =>
  match s.inp.agent with
  | d :: ds => .ok d { s with inp := { s.inp with agent := ds } }
  | [] => .ok (Config.drawAgent s.inp.draws) { s with inp := { s.inp with draws := s.inp.draws + 1 } }

/-! The control port's agents. -/

/-- A request whose agent has not started (45_control R450). -/
def Request.arrived (q : Request) : Bool := q.point == .received

/-- A request agent's control point (10_state R24). -/
def State.markRunning (s : State) (k : Nat) : State :=
  { s with reqs := s.reqs.map fun q => if q.id = k then { q with point := .running } else q }

/-- The reply of agent `a` on CTRL_RSP: its request, if it is one, ends (45_control R450). -/
def State.replyTo (s : State) (a : Agent) (r : Reply) : State :=
  { s.emit (.reply a r) with
    reqs := s.reqs.map fun q => if a = .ctrl q.id then { q with point := .replied, reply := some r } else q }

/-- Agent `a` begins the write of its reply, a suspension point: other agents can run before it is sent
(60_exceptions R640). -/
def State.post (s : State) (a : Agent) (r : Reply) : State := { s with replies := s.replies ++ [(a, r)] }

/-- The running agent's reply. -/
def replyWith (r : Reply) : Op Unit := modify fun s => s.post s.cur r

/-- The write of agent `a`'s reply ends: it is on CTRL_RSP (45_control R450). -/
def State.send (s : State) (a : Agent) : State :=
  match s.replies.lookup a with
  | none => s
  | some r => { s with replies := s.replies.eraseP fun x => x.1 == a }.replyTo a r

/-! Agents that wait at `Lock()`, and what an agent does before it. -/

/-- Agent `a` waits at `Lock()` (10_state R30). -/
def State.park (s : State) (a : Agent) (h : Hold) : State := { s with waiters := s.waiters ++ [⟨a, h⟩] }

/-- `TICK_MS` (00_scope section 3). -/
def tickMs : Nat := 100

/-- `Sleep(TICK_MS)` of the supervisor loop begins: its wake time is fixed now, at most the slack beyond the bound
(42_power_fsm R300, log 33). -/
def State.arm (s : State) : State :=
  if s.pcSup = .sleeping ∧ s.supWake = none then
    match popLate s with
    | .ok late t => { t with supWake := some (s.now + tickMs + late) }
    | .error _ t => t
  else s

/-- What a tick that begins now goes to `Lock()` for (42_power_fsm R301): the exit on a signal, nothing in Dead, else the tick
with the limits it reads as it begins (45_control R461, log 12). -/
def State.tickHold (s : State) : Option Hold :=
  if s.sigCancel then some (.exit 0)
  else if s.fsm = .dead then none
  else some (.tick s.cfg.vlim s.cfg.tlim)

/-- The supervisor begins a tick (42_power_fsm R301): to the exit on a signal, back to sleep in Dead, else to `Lock()`. -/
def State.beginTick (s : State) : State :=
  { s with
    supWake := none
    pcSup := if s.sigCancel then .exiting else if s.fsm = .dead then .sleeping else .waitLock }

/-- The supervisor begins a tick while another agent holds the lock (42_power_fsm R300, R301, R332): it waits at `Lock()`, or
in Dead sleeps again. -/
def State.wake (s : State) : State :=
  match s.tickHold with
  | some h => s.beginTick.park .supervisor h
  | none => s.beginTick.arm

/-- When the sleeping supervisor's tick is due while another agent holds the lock (42_power_fsm R300, R330): at its wake time,
or at once on a signal. -/
def State.supDue (s : State) : Option Nat :=
  if s.up = true ∧ s.holder ≠ none ∧ s.cur ≠ .supervisor then
    match s.pcSup with
    | .init => some s.now
    | .sleeping => if s.sigCancel then some s.now else s.supWake
    | .waitLock => none
    | .sample => none
    | .feed => none
    | .step => none
    | .exiting => none
    | .exited => none
  else none

/-- What a request that needs the bus goes to `Lock()` for; the wall clock is read before it (45_control R451, R463 to R470). -/
def State.requestHold (s : State) : Instr → Option (Hold × State)
  | .cSnapshot => some (.snapshot, s)
  | .cGetUsb p => some (.getUsb p, s)
  | .cSetUsb p on => some (.setUsb p on, s)
  | .cShutdown => some (.shutdown, s)
  | .cStandby (.delay d) => some (.standby (clampDelay d), s)
  | .cStandby (.datetime w) =>
    match popWall s with
    | .ok h t => some (.standby (datetimeDelay w h), t)
    | .error _ _ => none
  | .cUpload image => some (.uploadRequest image, s)
  | _ => none

/-- The engine of an upload is at Validate as the upload begins (10_state R24). -/
def State.atValidate (s : State) (i : Instr) (k : Nat) : State :=
  match i with
  | .cUpload _ => s.dfuAt (.ctrl k) .validate
  | _ => s

/-- A request's agent starts while another agent holds the lock (45_control R450, R452, R453, R471; 30_encoding R130): it runs
to its reply, or to `Lock()`. Where the lock is free it starts in a step of its own. -/
def State.start (s : State) (q : Request) : State :=
  match decodeRequest q.word with
  | none => (s.markRunning q.id).post (.ctrl q.id) (.error (.badRequest (.request q.word)))
  | some i =>
    match immediateReply s.cfg i with
    | some (r, c) => (({ s with cfg := c }.atValidate i q.id).markRunning q.id).post (.ctrl q.id) r
    | none =>
      if s.holder = none then s
      else
        match (s.atValidate i q.id).requestHold i with
        | some (h, t) => (t.markRunning q.id).park (.ctrl q.id) h
        | none => s

/-- Request `k`'s agent, unless it is the running one, runs to its next suspension point as far as it needs no lock
(60_exceptions R640): its reply is sent, or it starts. -/
def State.serve (s : State) (k : Nat) : State :=
  if s.cur = .ctrl k then s
  else if (s.replies.lookup (.ctrl k)).isSome then s.send (.ctrl k)
  else
    match s.reqs.find? fun q => q.id == k && q.arrived with
    | none => s
    | some q => s.start q

/-! Suspension points. -/

/-- What lands at a suspension point (60_exceptions R605): a signal is latched (42_power_fsm R330), a request becomes a new
agent in Received once the control port exists (45_control R450, log 18), a request's agent or the supervisor may run. That a signal
in STARTUP moves the signal input, which is not started then, to Signalled is the model's choice (DESIGN CHOICE, log 50). -/
def State.act (s : State) : EnvAct → State
  | .signal k => { s.emit (.signal k) with sigCancel := true, pcSig := .signalled }
  | .request w =>
    if s.up then
      { s.emit (.request s.nextReq w) with
        reqs := s.reqs ++ [{ id := s.nextReq, word := w, point := .received, reply := none }]
        nextReq := s.nextReq + 1 }
    else s
  | .serve k => s.serve k
  | .wake =>
    match s.supDue with
    | some w => if w ≤ s.now then s.wake else s
    | none => s

/-- The supervisor's ticks that are due strictly before `till`, each begun when it is due; every one after the first is at
least `TICK_MS` later, so one per millisecond is enough fuel. -/
def State.wakes (s : State) (till : Nat) : Nat → State
  | 0 => s
  | k + 1 =>
    match s.supDue with
    | none => s
    | some w => if w < till then ({ s with now := max s.now w }.wake).wakes till k else s

/-- Time passes to `till`, and the supervisor's ticks begin when they are due (42_power_fsm R300). -/
def State.passTo (s : State) (till : Nat) : State := { s.wakes till (till - s.now) with now := till }

/-- A suspension to `till` with what lands in it, each arrival in its time (60_exceptions R605). -/
def State.elapse (s : State) (till : Nat) : List Arrival → State
  | [] => s.passTo till
  | a :: rest => ((s.passTo (min (s.now + a.after) till)).act a.act).elapse till rest

/-- How long a suspension of `ms` milliseconds lasts: less where the draw cuts host power within it, at the drawn time. -/
def suspLength (p : Susp) (ms : Nat) : Nat := if p.cut then min p.dur ms else ms

/-- A suspension of `ms` milliseconds (00_scope R7, 60_exceptions R605, R639): time passes, what lands is taken and the
supervisor's ticks begin in their time. Where the draw cuts host power it ends there, and where the companion's deadline passes
first, in the first millisecond after it; what landed before stays done. That a cut can fall at any instant of a suspension, and
a passed deadline at that one, is the model's choice: R639 names no instant (DESIGN CHOICE, log 46). -/
def suspend (ms : Nat) (p : Susp) : Op Unit := fun s =>
  if s.comp.wdog.expired (s.now + suspLength p ms) then .error .cut (s.elapse (s.comp.wdog.lapse s.now) p.acts)
  else if p.cut then .error .cut (s.elapse (s.now + suspLength p ms) p.acts)
  else .ok () (s.elapse (s.now + suspLength p ms) p.acts)

/-- An operation whose state is changed once more where host power is cut in it. -/
def onCut {α : Type} (f : State → State) (x : Op α) : Op α := fun s =>
  match x s with
  | .ok a t => .ok a t
  | .error .cut t => .error .cut (f t)
  | .error (.raise e) t => .error (.raise e) t
  | .error .wait t => .error .wait t
  | .error (.stop e) t => .error (.stop e) t

/-- `Sleep(d)` (00_scope R7): a lower bound, whatever locks are held. -/
def sleep (ms : Nat) : Op Unit := do
  emit (.sleep ms)
  let p ← popSleep
  suspend (ms + p.dur) p

/-! The lock. -/

/-- The running agent takes the free lock. -/
def State.takeLock (s : State) : State := { s.emit (.lock s.cur) with holder := some s.cur }

/-- `Lock()` (10_state R30): a free lock is taken in one atomic step; while another agent holds it the agent waits here, and
goes on from here with `h`; the lock is not re-entrant. -/
def acquire (h : Hold) : Op Unit := do
  let s ← get
  match s.holder with
  | none => modify State.takeLock
  | some a =>
    if a = s.cur then stop .reentrantLock
    else do
      modify fun s => s.park s.cur h
      throw .wait

/-- `Unlock()` by the holder (10_state R31). -/
def unlock : Op Unit := do
  let s ← get
  if s.holder = some s.cur then set { s.emit (.unlock s.cur) with holder := none }
  else stop .unlockByNonHolder

/-- `Lock(); r <- try x; Unlock()` (45_control). -/
def underLock {α : Type} (h : Hold) (x : Op α) : Op (Except Err α) := do
  acquire h
  let r ← attempt x
  unlock
  return r

/-! Transactions. -/

/-- Only the lock holder issues a transaction (10_state R32), on a bus that is open (log 17). -/
def guardBus : Op Unit := do
  let s ← get
  if s.busOpen then
    if s.holder = some s.cur then return () else stop .transactionByNonHolder
  else stop .busNotOpen

/-- `MemRead(r, n)`: one read attempt (00_scope R8, 40_transport R202). -/
def memRead (r : Byte) (n : Nat) : Op (Except Failure (List Byte)) := do
  guardBus
  let d ← popBus
  suspend d.susp.dur d.susp
  let s ← get
  let a := s.comp.answerRead s.par.wdAnyTraffic s.now r n d.resp
  set { s.emit (.read r n a.1) with comp := a.2 }
  return a.1

/-- A write attempt that a host power cut interrupts (60_exceptions R631, R639): whether it reached the companion is in no rule,
so a USB register it names has no known value and its next read is a draw (DEDUCED, log 13); the reference companion is as it
was (DESIGN CHOICE, log 21). -/
def State.lostWrite (s : State) (r : Byte) (data : List Byte) : State :=
  { s with comp := { s.comp with mem := noteWrite s.comp.mem r data false } }

/-- `MemWrite(r, len, data)`: one write attempt (00_scope R8, 40_transport R202). The time t of 60_exceptions R632 is the
clock at the attempt's end, after what lands in it (DESIGN CHOICE, log 40). -/
def memWrite (r : Byte) (data : List Byte) : Op (Except Failure Unit) := do
  guardBus
  let d ← popBus
  onCut (State.lostWrite · r data) (suspend d.susp.dur d.susp)
  let s ← get
  let a := s.comp.answerWrite s.par.wdAnyTraffic s.now r data d.resp
  set { s.emit (.write r data a.1) with comp := a.2 }
  return a.1

/-- `RETRY_MAX` (00_scope section 3). -/
def retryMax : Nat := 3

/-- `RETRY_BACKOFF_MS` (00_scope section 3). -/
def retryBackoffMs : Nat := 10

/-- `Attempt(t)` with `k` retries left (40_transport R203): fatal failures are raised at once, a transient failure sleeps
and tries again, the last one is raised as `Retry`. -/
def retryLoop {α : Type} (t : Op (Except Failure α)) : Nat → Op α
  | 0 => do
    match ← t with
    | .ok v => return v
    | .error f => if failureFatal f then raise (.transport (.single f)) else raise (.transport (.retry f))
  | k + 1 => do
    match ← t with
    | .ok v => return v
    | .error f =>
      if failureFatal f then raise (.transport (.single f))
      else do
        sleep retryBackoffMs
        retryLoop t k

/-- `Attempt(t)` (40_transport R203). -/
def attempt4 {α : Type} (t : Op (Except Failure α)) : Op α := retryLoop t retryMax

/-! Ends of operations. -/

/-- The state a host power cut leaves (60_exceptions R639, log 15): every block state register is lost, the next step is
STARTUP; the clock, the settled inputs, the operation port, the parameters and the companion (its watchdog no longer known)
are not the block's. What a write attempt in flight left of a USB register is no longer known either (`State.lostWrite`, log 13). -/
def State.powerCut (s : State) : State :=
  { State.initial s.par with
    now := s.now
    comp := { s.comp with wdog := .unknown }
    opPort := s.opPort
    inp := s.inp
    trace := s.trace ++ [(s.now, .powerCut)] }

/-- An operation's end as an outcome of the machine: a value or a raised error is the operation's result (10_state R25), a
wait leaves the agent at `Lock()`, a power cut ends the run, a fault of the model stops it. -/
def finish (x : Op Result) (s : State) : Host.Outcome State Fault Refusal :=
  match x s with
  | .ok r t => .next { t with result := some r }
  | .error (.raise e) t => .next { t with result := some (.error e) }
  | .error .wait t => .next t
  | .error .cut t => .next t.powerCut
  | .error (.stop f) _ => .fault f

/-- An operation that returns a value. -/
def giving {α : Type} (f : α → Value) (x : Op α) : Op Result := do
  let a ← x
  return .value (f a)

/-- An operation that returns nothing but ok. -/
def doing (x : Op Unit) : Op Result := do
  x
  return .value .unit

/-- A control request: its reply is its result, and its write begins (45_control R450). -/
def replying (x : Op Reply) : Op Result := do
  let r ← x
  replyWith r
  return .reply r

end Sys2Proof.Machine
end

