-- ==== Sys2Proof/Machine/Transport.lean ====
section
/-! DEFINITION. Bus transport operations: raw and typed reads and writes (40_transport R200 to R218). -/

namespace Sys2Proof.Machine

/-- `RDREG r, n` (40_transport R200). A length of 0, which R200 leaves out, is a transaction like any other that reads no byte
(DESIGN CHOICE, log 30). -/
def rdreg (r : Byte) (n : Nat) : Op (List Byte) := attempt4 (memRead r n)

/-- `WRREG r, s` (40_transport R201). An empty string, which R201 leaves out, is a write of the register address alone
(DESIGN CHOICE, log 30). -/
def wrreg (r : Byte) (data : List Byte) : Op Unit := attempt4 (memWrite r data)

/-- `RDU8 r` (40_transport R206). -/
def rdu8 (r : Byte) : Op Byte := do
  let d ← rdreg r 1
  return byteAt d 0

/-- `RDWORD r`: the single word transaction, without the dialect dispatch (40_transport R211, R208). -/
def rdword (r : Byte) : Op Nat := do
  let d ← rdreg r 2
  return decBe d

/-- The transactions of a fixed dialect-1 read, each through the retry loop; the responses of its reads, in order
(40_transport R209). -/
def runDialect1 : List Dialect1Txn → Op (List (List Byte))
  | [] => return []
  | .read r n :: rest => do
    let bs ← rdreg r n
    let more ← runDialect1 rest
    return bs :: more
  | .write r data :: rest => do
    wrreg r data
    runDialect1 rest

/-- A successful transaction of an unstated trace: it is traffic for the companion's watchdog (60_exceptions R632). -/
def traffic : Op Unit :=
  modify fun s => { s with comp := { s.comp with wdog := s.comp.wdog.touch s.par.wdAnyTraffic s.now } }

/-- The successful transactions of an unstated trace, one after another. -/
def unstatedTrace : List Susp → Op Unit
  | [] => return ()
  | p :: rest => do
    suspend p.dur p
    traffic
    unstatedTrace rest

/-- What `Attempt` raises for a last failure: a fatal one as it is, a transient one as `Retry` (40_transport R203, R204). -/
def attemptError (f : Failure) : TransportError := if failureFatal f then .single f else .retry f

/-- A dialect-1 read that the parameter does not fix: a drawn value, or the transport error of a drawn failure, over a bus
trace that is unstated (40_transport R209). Which of its transactions restart the companion's deadline is drawn: each of the
drawn trace, and the last one where the read succeeds; and a drawn `ShortRead` carries any two numbers, whether or not the bytes
got are fewer than those expected (DESIGN CHOICE, log 20). -/
def unfixedDialect1 (r : Byte) : Op Nat := do
  guardBus
  let d ← popDialect1
  unstatedTrace d.traffic
  suspend d.susp.dur d.susp
  emit (.dialect1 r d.resp)
  match d.resp with
  | .value v => do
    traffic
    return v.toNat
  | .fail f => raise (.transport (attemptError f))

/-- The decoding of a fixed dialect-1 read (40_transport R209): the first byte obtained is the high byte. -/
def decodeDialect1 (r : Byte) (low : Dialect1Low) (responses : List (List Byte)) : Option Nat :=
  match responses.flatten with
  | [] => none
  | hi :: rest =>
    match low with
    | .byteAt i => ((hi :: rest)[i]?).map fun lo => hi.toNat * 256 + lo.toNat
    | .decoded => some (hi.toNat * 256 + (Config.dialect1Low r responses).toNat)

/-- A fixed dialect-1 read: its transactions, then its decoding. One that obtains too few bytes goes on as a whole unfixed read,
which gives a drawn value or raises a drawn `TransportError` that none of its own transactions gave (DESIGN CHOICE, log 20). -/
def fixedDialect1 (r : Byte) (c : Dialect1Read) : Op Nat := do
  let responses ← runDialect1 c.txns
  match decodeDialect1 r c.low responses with
  | some v => return v
  | none => unfixedDialect1 r

/-- `DIALECT1_U16(r)` (40_transport R209, log 20). -/
def dialect1U16 (r : Byte) : Op Nat := do
  let s ← get
  match s.par.dialect1 with
  | .unfixed => unfixedDialect1 r
  | .table rows =>
    match rows.lookup r with
    | some c => fixedDialect1 r c
    | none => unfixedDialect1 r

/-- `RDU16 r`: the one read that honours the dialect (40_transport R207, R216). -/
def rdu16 (r : Byte) : Op Nat := do
  let s ← get
  match s.dialect with
  | some .two => rdword r
  | some .one => dialect1U16 r
  | none => stop .emptyRegister

/-- `RDU32 r` (40_transport R210). -/
def rdu32 (r : Byte) : Op Nat := do
  let d ← rdreg r 4
  return decBe d

/-- A typed writer of `k` bytes; a wider value is a fault of the model (40_transport R215). -/
def wruN (k : Nat) (r : Byte) (v : Nat) : Op Unit :=
  if v < 256 ^ k then wrreg r (beN k v) else stop .valueTooWide

/-- `WRU8 r, v` (40_transport R212). -/
def wru8 (r : Byte) (v : Nat) : Op Unit := wruN 1 r v

/-- `WRU16 r, v` (40_transport R213). -/
def wru16 (r : Byte) (v : Nat) : Op Unit := wruN 2 r v

/-- `WRU32 r, v` (40_transport R214). -/
def wru32 (r : Byte) (v : Nat) : Op Unit := wruN 4 r v

/-! The meanings. -/

/-- RDREG (40_transport R200). -/
def execRdreg (r : Byte) (n : Nat) (s : State) : Host.Outcome State Fault Refusal :=
  finish (giving .bytes (rdreg r n)) s

/-- WRREG (40_transport R201). -/
def execWrreg (r : Byte) (data : List Byte) (s : State) : Host.Outcome State Fault Refusal :=
  finish (doing (wrreg r data)) s

/-- RDU8 (40_transport R206). -/
def execRdu8 (r : Byte) (s : State) : Host.Outcome State Fault Refusal :=
  finish (giving (fun b => .num b.toNat) (rdu8 r)) s

/-- RDU16 (40_transport R207). -/
def execRdu16 (r : Byte) (s : State) : Host.Outcome State Fault Refusal := finish (giving .num (rdu16 r)) s

/-- RDU32 (40_transport R210). -/
def execRdu32 (r : Byte) (s : State) : Host.Outcome State Fault Refusal := finish (giving .num (rdu32 r)) s

/-- RDWORD (40_transport R211). -/
def execRdword (r : Byte) (s : State) : Host.Outcome State Fault Refusal := finish (giving .num (rdword r)) s

/-- WRU8 (40_transport R212). -/
def execWru8 (r : Byte) (v : Nat) (s : State) : Host.Outcome State Fault Refusal := finish (doing (wru8 r v)) s

/-- WRU16 (40_transport R213). -/
def execWru16 (r : Byte) (v : Nat) (s : State) : Host.Outcome State Fault Refusal := finish (doing (wru16 r v)) s

/-- WRU32 (40_transport R214). -/
def execWru32 (r : Byte) (v : Nat) (s : State) : Host.Outcome State Fault Refusal := finish (doing (wru32 r v)) s

end Sys2Proof.Machine
end

