-- ==== Sys2Proof/Machine/Registers.lean ====
section
/-! DEFINITION. Named register operations: identity, thresholds, the sampler, the watchdog, USB rails, power requests (41_register_ops R250 to R265). -/

namespace Sys2Proof.Machine

/-- `WD_TIMEOUT_CS`: ten seconds in centiseconds (00_scope section 3). -/
def wdTimeoutCs : Nat := 1000

/-- `RD_HWVER` (41_register_ops R250). -/
def rdHwver : Op HwVersion := do
  let d ← rdreg 0x03 3
  return hwVersionOf d

/-- `RD_FWVER`: a 4-byte read, the same in every dialect (41_register_ops R251). -/
def rdFwver : Op FwVersion := do
  let d ← rdreg 0x04 4
  return fwVersionOf d

/-- `RD_DEVID` (41_register_ops R252). -/
def rdDevid : Op (List Byte) := rdreg 0x05 8

/-- `RD_WDT` (41_register_ops R253). -/
def rdWdt : Op Nat := rdu16 0x10

/-- `RD_PON` (41_register_ops R254). -/
def rdPon : Op Nat := rdu16 0x11

/-- `WR_PON v` (41_register_ops R254). -/
def wrPon (v : Nat) : Op Unit := wru16 0x11 v

/-- The read of the power state, decoded (41_register_ops R255, R257). -/
def rdPstate : Op PowerState := do
  let b ← rdu8 0x25
  return decodePs b

/-- `READ_MEASUREMENTS`: six reads in a fixed order under one hold; the first failure ends it with no snapshot
(41_register_ops R255, R256). -/
def readMeasurements : Op Snapshot := do
  let vin ← rdu16 0x20
  let vscap ← rdu16 0x21
  let iin ← rdu16 0x22
  let tmcu ← rdu16 0x23
  let tpcb ← rdu16 0x24
  let ps ← rdPstate
  return { vin := BitVec.ofNat 16 vin, vscap := BitVec.ofNat 16 vscap, iin := BitVec.ofNat 16 iin,
           tmcu := BitVec.ofNat 16 tmcu, tpcb := BitVec.ofNat 16 tpcb, pstate := ps }

/-- `WD_ARM` (41_register_ops R258). -/
def wdArm : Op Unit := wru16 0x10 wdTimeoutCs

/-- `WD_FEED` (41_register_ops R259). -/
def wdFeed : Op Unit := wru16 0x10 wdTimeoutCs

/-- `WD_DISABLE` (41_register_ops R260). -/
def wdDisable : Op Unit := wru16 0x10 0

/-- `GET_USB p` (41_register_ops R261, R265). -/
def getUsb (p : Int) : Op Bool :=
  if portLegal p then do
    let b ← rdu8 (usbReg p)
    if b = 0 then return false else if b = 1 then return true else raise (.badValue (usbReg p) b)
  else raise (.notFound (.port p))

/-- `SET_USB p, e` (41_register_ops R262, R265). -/
def setUsb (p : Int) (on : Bool) : Op Unit :=
  if portLegal p then wru8 (usbReg p) (if on then 1 else 0) else raise (.notFound (.port p))

/-- `REQUEST_SHUTDOWN` (41_register_ops R263). -/
def requestShutdown : Op Unit := wru8 0x30 0x01

/-- `REQUEST_STANDBY s` (41_register_ops R264): the mode byte, then the seconds. -/
def requestStandby (seconds : Nat) : Op Unit := do
  let s ← get
  if seconds < 256 ^ 4 then wrreg 0x31 (s.par.standbyMode :: be32 seconds) else stop .valueTooWide

/-! The meanings. -/

/-- RD_HWVER (41_register_ops R250). -/
def execRdHwver (s : State) : Host.Outcome State Fault Refusal := finish (giving .hwVersion rdHwver) s

/-- RD_FWVER (41_register_ops R251). -/
def execRdFwver (s : State) : Host.Outcome State Fault Refusal := finish (giving .fwVersion rdFwver) s

/-- RD_DEVID (41_register_ops R252). -/
def execRdDevid (s : State) : Host.Outcome State Fault Refusal := finish (giving .bytes rdDevid) s

/-- RD_WDT (41_register_ops R253). -/
def execRdWdt (s : State) : Host.Outcome State Fault Refusal := finish (giving .num rdWdt) s

/-- WD_ARM (41_register_ops R258). -/
def execWdArm (s : State) : Host.Outcome State Fault Refusal := finish (doing wdArm) s

/-- WD_FEED (41_register_ops R259). -/
def execWdFeed (s : State) : Host.Outcome State Fault Refusal := finish (doing wdFeed) s

/-- WD_DISABLE (41_register_ops R260). -/
def execWdDisable (s : State) : Host.Outcome State Fault Refusal := finish (doing wdDisable) s

/-- RD_PON (41_register_ops R254). -/
def execRdPon (s : State) : Host.Outcome State Fault Refusal := finish (giving .num rdPon) s

/-- WR_PON (41_register_ops R254). -/
def execWrPon (v : Nat) (s : State) : Host.Outcome State Fault Refusal := finish (doing (wrPon v)) s

/-- RD_VIN (41_register_ops R255). -/
def execRdVin (s : State) : Host.Outcome State Fault Refusal := finish (giving .num (rdu16 0x20)) s

/-- RD_VSCAP (41_register_ops R255). -/
def execRdVscap (s : State) : Host.Outcome State Fault Refusal := finish (giving .num (rdu16 0x21)) s

/-- RD_IIN (41_register_ops R255). -/
def execRdIin (s : State) : Host.Outcome State Fault Refusal := finish (giving .num (rdu16 0x22)) s

/-- RD_TMCU (41_register_ops R255). -/
def execRdTmcu (s : State) : Host.Outcome State Fault Refusal := finish (giving .num (rdu16 0x23)) s

/-- RD_TPCB (41_register_ops R255). -/
def execRdTpcb (s : State) : Host.Outcome State Fault Refusal := finish (giving .num (rdu16 0x24)) s

/-- RD_PSTATE (41_register_ops R255, R257). -/
def execRdPstate (s : State) : Host.Outcome State Fault Refusal := finish (giving .power rdPstate) s

/-- RD_USB0 (41_register_ops R261). -/
def execRdUsb0 (s : State) : Host.Outcome State Fault Refusal := finish (giving .bool (getUsb 0)) s

/-- RD_USB1 (41_register_ops R261). -/
def execRdUsb1 (s : State) : Host.Outcome State Fault Refusal := finish (giving .bool (getUsb 1)) s

/-- RD_USB2 (41_register_ops R261). -/
def execRdUsb2 (s : State) : Host.Outcome State Fault Refusal := finish (giving .bool (getUsb 2)) s

/-- RD_USB3 (41_register_ops R261). -/
def execRdUsb3 (s : State) : Host.Outcome State Fault Refusal := finish (giving .bool (getUsb 3)) s

/-- WR_USB0 (41_register_ops R262). -/
def execWrUsb0 (on : Bool) (s : State) : Host.Outcome State Fault Refusal := finish (doing (setUsb 0 on)) s

/-- WR_USB1 (41_register_ops R262). -/
def execWrUsb1 (on : Bool) (s : State) : Host.Outcome State Fault Refusal := finish (doing (setUsb 1 on)) s

/-- WR_USB2 (41_register_ops R262). -/
def execWrUsb2 (on : Bool) (s : State) : Host.Outcome State Fault Refusal := finish (doing (setUsb 2 on)) s

/-- WR_USB3 (41_register_ops R262). -/
def execWrUsb3 (on : Bool) (s : State) : Host.Outcome State Fault Refusal := finish (doing (setUsb 3 on)) s

/-- WR_SHUTDOWN (41_register_ops R263). -/
def execWrShutdown (s : State) : Host.Outcome State Fault Refusal := finish (doing requestShutdown) s

/-- WR_STANDBY (41_register_ops R264). -/
def execWrStandby (seconds : Nat) (s : State) : Host.Outcome State Fault Refusal :=
  finish (doing (requestStandby seconds)) s

/-- READ_MEASUREMENTS (41_register_ops R255). -/
def execReadMeasurements (s : State) : Host.Outcome State Fault Refusal :=
  finish (giving .snapshot readMeasurements) s

/-- GET_USB (41_register_ops R261). -/
def execGetUsb (p : Int) (s : State) : Host.Outcome State Fault Refusal := finish (giving .bool (getUsb p)) s

/-- SET_USB (41_register_ops R262). -/
def execSetUsb (p : Int) (on : Bool) (s : State) : Host.Outcome State Fault Refusal := finish (doing (setUsb p on)) s

/-- REQUEST_SHUTDOWN (41_register_ops R263). -/
def execRequestShutdown (s : State) : Host.Outcome State Fault Refusal := finish (doing requestShutdown) s

/-- REQUEST_STANDBY (41_register_ops R264). -/
def execRequestStandby (seconds : Nat) (s : State) : Host.Outcome State Fault Refusal :=
  finish (doing (requestStandby seconds)) s

end Sys2Proof.Machine
end

