-- ==== Sys2Proof/Machine/Framer.lean ====
section
/-! DEFINITION. The DFU framer and the DFU register primitives (43_dfu_framer R350 to R365). -/

namespace Sys2Proof.Machine

/-- `FRAME(i, d)`; operands out of range are a fault of the model (43_dfu_framer R352). -/
def frame (i : Nat) (d : List Byte) : Op (List Byte) :=
  if frameInRange i d then return frameBytes i d else stop .frameOutOfRange

/-- `DFU_START n` (43_dfu_framer R360): the write of `be32(n)`. A size outside R360's range, which a named operation never writes
(30_encoding R121), is refused as an image of that size is (44_dfu_engine R381, 93 item 21), with nothing written (DESIGN CHOICE,
log 30). -/
def dfuStart (n : Nat) : Op Unit :=
  if imageSizeLegal n then wru32 0x40 n else raise (.badRequest (.imageSize n))

/-- `DFU_STATUS` (43_dfu_framer R361): the session, if there is one, remembers the byte (10_state R26, log 11). -/
def dfuStatus : Op Byte := do
  let b ← rdu8 0x41
  modify fun s => { s with session := s.session.map fun x => { x with lastStatus := some b } }
  return b

/-- `DFU_BW` (43_dfu_framer R362). -/
def dfuBw : Op Nat := rdu16 0x42

/-- `DFU_BLOCK i, d`: the whole frame is one transaction (43_dfu_framer R363). -/
def dfuBlock (i : Nat) (d : List Byte) : Op Unit := do
  let f ← frame i d
  wrreg 0x43 f

/-- `DFU_COMMIT` (43_dfu_framer R364). -/
def dfuCommit : Op Unit := wru8 0x44 0x00

/-- `DFU_ABORT` (43_dfu_framer R365). -/
def dfuAbort : Op Unit := wru8 0x45 0x00

/-! The meanings. -/

/-- CRC32 (43_dfu_framer R350). -/
def execCrc32 (data : List Byte) (s : State) : Host.Outcome State Fault Refusal :=
  finish (giving .num (return (crc32 data).toNat)) s

/-- FRAME (43_dfu_framer R352). -/
def execFrame (i : Nat) (d : List Byte) (s : State) : Host.Outcome State Fault Refusal :=
  finish (giving .bytes (frame i d)) s

/-- PARTITION (43_dfu_framer R353). An image of no bytes or above MAX_IMAGE, which R353 leaves out, is cut by the same formula and
is no fault (DESIGN CHOICE, log 30). -/
def execPartition (image : List Byte) (s : State) : Host.Outcome State Fault Refusal :=
  finish (giving .blocks (return partitionImage image)) s

/-- WR_DFU_START (43_dfu_framer R360). -/
def execWrDfuStart (n : Nat) (s : State) : Host.Outcome State Fault Refusal := finish (doing (dfuStart n)) s

/-- RD_DFU_STATUS (43_dfu_framer R361). -/
def execRdDfuStatus (s : State) : Host.Outcome State Fault Refusal :=
  finish (giving (fun b => .num b.toNat) dfuStatus) s

/-- RD_DFU_BW (43_dfu_framer R362). -/
def execRdDfuBw (s : State) : Host.Outcome State Fault Refusal := finish (giving .num dfuBw) s

/-- WR_DFU_BLOCK (43_dfu_framer R363). -/
def execWrDfuBlock (i : Nat) (d : List Byte) (s : State) : Host.Outcome State Fault Refusal :=
  finish (doing (dfuBlock i d)) s

/-- WR_DFU_COMMIT (43_dfu_framer R364). -/
def execWrDfuCommit (s : State) : Host.Outcome State Fault Refusal := finish (doing dfuCommit) s

/-- WR_DFU_ABORT (43_dfu_framer R365). -/
def execWrDfuAbort (s : State) : Host.Outcome State Fault Refusal := finish (doing dfuAbort) s

end Sys2Proof.Machine
end

