-- ==== Sys2Proof/Machine/Dfu.lean ====
section
/-! DEFINITION. The DFU protocol engine: session, pre-block wait, blocks, drain, commit, abort (44_dfu_engine R380 to R405). -/

namespace Sys2Proof.Machine

/-- `DFU_PRE_SLEEP_MS` (00_scope section 3). -/
def dfuPreSleepMs : Nat := 100

/-- `DFU_WAIT_MS` (00_scope section 3). -/
def dfuWaitMs : Nat := 30000

/-- `DRAIN_GAP_MS` (00_scope section 3). -/
def drainGapMs : Nat := 100

/-- `DRAIN_ITER_MS` (00_scope section 3). -/
def drainIterMs : Nat := 500

/-- `DRAIN_TIMEOUT_MS` (00_scope section 3). -/
def drainTimeoutMs : Nat := 5000

/-- `COMMIT_SLEEP_MS` (00_scope section 3). -/
def commitSleepMs : Nat := 100

/-- `ABORT_SLEEP_MS` (00_scope section 3). -/
def abortSleepMs : Nat := 100

/-- How many polls a pre-block wait can take: each sleeps at least 100 ms, so the 302nd never comes (log 28). -/
def prewaitFuel : Nat := 302

/-- How many iterations a drain can take: each lasts at least 600 ms, so the 11th never comes (log 28). -/
def drainFuel : Nat := 11

/-- The poll loop of a pre-block wait that began at `start` (44_dfu_engine R385 to R389): the status is classified first,
then the limit, then the cancellation flag. -/
def prewaitLoop (i start : Nat) : Nat → Op Unit
  | 0 => raise (.dfuTimeout .preWait (some i))
  | k + 1 => do
    let st ← dfuStatus
    match classify st with
    | .ready => return ()
    | .fatal e => raise e
    | .wait d => do
      let s ← get
      if dfuWaitMs ≤ s.now - start then raise (.dfuTimeout .preWait (some i))
      else if s.sigCancel then raise (.dfuCancelled i)
      else do
        sleep d
        prewaitLoop i start k

/-- `PREWAIT(i)` (44_dfu_engine R385). Whose control point it sets outside an upload is log 48. -/
def prewait (i : Nat) : Op Unit := do
  setDfu (.preWait i)
  let s ← get
  if s.sigCancel then raise (.dfuCancelled i)
  else do
    sleep dfuPreSleepMs
    let start ← clock
    prewaitLoop i start prewaitFuel

/-- `DFU_SEND(i)` (44_dfu_engine R390): one frame write of block `i` of the engine's image. It reads no field of the session;
with no such block, as outside a session, there is no byte to frame (43_dfu_framer R352, log 37). Whose control point it sets
outside an upload is log 48. -/
def dfuSend (i : Nat) : Op Unit := do
  setDfu (.send i)
  let s ← get
  dfuBlock i (blockAt s.dfuImage i)

/-- After a successful block write: progress (44_dfu_engine R391). -/
def noteProgress (i total : Nat) : Op Unit := do
  setDfu (.progress i)
  modify fun s => { s.emit (.progress s.cur (i + 1) total) with
    session := s.session.map fun x => { x with next := i + 1 } }

/-- The block loop of SESSION_BODY, `k` blocks from block `i` on (44_dfu_engine R380). -/
def sendBlocks (total : Nat) : Nat → Nat → Op Unit
  | 0, _ => return ()
  | k + 1, i => do
    prewait i
    dfuSend i
    noteProgress i total
    sendBlocks total k (i + 1)

/-- The drain loop that began at `start` (44_dfu_engine R393 to R396). -/
def drainLoop (total start : Nat) : Nat → Op Unit
  | 0 => raise (.dfuTimeout .drain none)
  | k + 1 => do
    let st ← dfuStatus
    match classifyDrain st with
    | some e => raise e
    | none => do
      sleep drainGapMs
      let bw ← dfuBw
      if st = 4 ∧ bw = total then return ()
      else do
        let s ← get
        if drainTimeoutMs ≤ s.now - start then
          if st = 4 then raise (.dfuSizeMismatch bw total) else raise (.dfuTimeout .drain none)
        else do
          sleep drainIterMs
          drainLoop total start k

/-- `DRAIN(B)` (44_dfu_engine R393). Whose control point it sets outside an upload is log 48. -/
def drain (total : Nat) : Op Unit := do
  setDfu .drain
  let start ← clock
  drainLoop total start drainFuel

/-- `COMMIT_SEQ` (44_dfu_engine R397). Whose control point it sets outside an upload is log 48. -/
def commitSeq : Op Unit := do
  setDfu .commit
  sleep commitSleepMs
  dfuCommit

/-- `ABORT_SEQ` (44_dfu_engine R400): best effort, a failure of the abort write is ignored (R401). Whose control point it sets
outside an upload is log 48. -/
def abortSeq : Op Unit := do
  setDfu .abort
  sleep abortSleepMs
  let _ ← attempt dfuAbort
  return ()

/-- `SESSION_BODY` (44_dfu_engine R380). -/
def sessionBody (n : Nat) : Op Unit := do
  setDfu .start
  dfuStart n
  sendBlocks (blockCount n) (blockCount n) 0
  drain (blockCount n)
  commitSeq

/-- The end of a session: the record is destroyed and the lock released (44_dfu_engine R380, 10_state R51). -/
def endSession : Op Unit := do
  modify fun s => { s with session := none, dfuImage := [] }
  unlock
  setDfu .done

/-- `DFU_UPLOAD(image)` from its `Lock()` on (44_dfu_engine R380, R382, R383, R399): every error of the session leads to one
abort and is then raised. -/
def uploadFrom (h : Hold) (image : List Byte) : Op Unit := do
  acquire h
  modify fun s => { s with
    dfuImage := image
    session := some { totalSize := image.length, blockSize := blockSize, totalBlocks := blockCount image.length,
                      next := 0, lastStatus := none } }
  match ← attempt (sessionBody image.length) with
  | .ok _ => endSession
  | .error e => do
    abortSeq
    endSession
    raise e

/-- `DFU_UPLOAD(image)` (44_dfu_engine R380, R381): an image out of range is refused before the lock. A refused engine stays at
Validate, and so does an accepted one that waits at `Lock()` (R382), for 10_state R24 names no other control point for either
(DESIGN CHOICE, log 42). -/
def dfuUpload (h : Hold) (image : List Byte) : Op Unit := do
  setDfu .validate
  if imageSizeLegal image.length then uploadFrom h image else raise (.badRequest (.imageSize image.length))

/-! The meanings. -/

/-- DFU_UPLOAD (44_dfu_engine R380). -/
def execDfuUpload (image : List Byte) (s : State) : Host.Outcome State Fault Refusal :=
  finish (doing (dfuUpload (.upload image) image)) s

/-- DFU_PREWAIT (44_dfu_engine R385). -/
def execDfuPrewait (i : Nat) (s : State) : Host.Outcome State Fault Refusal := finish (doing (prewait i)) s

/-- DFU_SEND (44_dfu_engine R390). -/
def execDfuSend (i : Nat) (s : State) : Host.Outcome State Fault Refusal := finish (doing (dfuSend i)) s

/-- DFU_DRAIN (44_dfu_engine R393). -/
def execDfuDrain (total : Nat) (s : State) : Host.Outcome State Fault Refusal := finish (doing (drain total)) s

/-- DFU_COMMIT_SEQ (44_dfu_engine R397). -/
def execDfuCommitSeq (s : State) : Host.Outcome State Fault Refusal := finish (doing commitSeq) s

/-- DFU_ABORT_SEQ (44_dfu_engine R400). -/
def execDfuAbortSeq (s : State) : Host.Outcome State Fault Refusal := finish (doing abortSeq) s

end Sys2Proof.Machine
end

