-- ==== Sys2Proof/Machine/Control.lean ====
section
/-! DEFINITION. The control port's requests (45_control R450 to R472). -/

namespace Sys2Proof.Machine

/-- The reply of a bus operation's outcome (45_control R471). -/
def replyOf {α : Type} (f : α → Value) : Except Err α → Reply
  | .ok a => .value (f a)
  | .error e => .error (mapError e)

/-- A request that is answered from the configuration or refused, where its operands say so (45_control R452, R453, R463,
R467, R471); otherwise the operation goes on. -/
def orImmediate (i : Instr) (x : Op Reply) : Op Reply := do
  let s ← get
  match immediateReply s.cfg i with
  | some (r, c) => do
    set { s with cfg := c }
    return r
  | none => x

/-- `C_SNAPSHOT`: a fresh read under the lock (45_control R451). -/
def cSnapshot : Op Reply := do
  match ← underLock .snapshot readMeasurements with
  | .ok m => do
    modify fun s => { s with measLast := some m }
    return .value (.snapshot m)
  | .error e => return .error (mapError e)

/-- `C_GET_USB p` past its port check (45_control R463). -/
def cGetUsb (p : Int) : Op Reply := do
  let r ← underLock (.getUsb p) (getUsb p)
  return replyOf .bool r

/-- `C_SET_USB p, e` past its port check (45_control R464). -/
def cSetUsb (p : Int) (on : Bool) : Op Reply := do
  let r ← underLock (.setUsb p on) (setUsb p on)
  return replyOf (fun _ => .unit) r

/-- `C_SHUTDOWN`: the write, then the intent whether or not it succeeded (45_control R466, 10_state R36). -/
def cShutdown : Op Reply := do
  let r ← underLock .shutdown requestShutdown
  modify fun s => { s with intent := true }
  return replyOf (fun _ => .unit) r

/-- The write of a standby request under the lock (45_control R467). -/
def standbyWrite (seconds : Nat) : Op Reply := do
  let r ← underLock (.standby seconds) (requestStandby seconds)
  return replyOf (fun _ => .unit) r

/-- `C_STANDBY` past its checks (45_control R467 to R469); the wall clock is read when the request is served. -/
def cStandby : StandbyArg → Op Reply
  | .delay d => standbyWrite (clampDelay d)
  | .datetime w => do
    let h ← popWall
    standbyWrite (datetimeDelay w h)
  | .other given => return .error (.badRequest (.datetime given))

/-- `C_UPLOAD` (45_control R470): the outcome of the upload as the reply. -/
def cUpload (x : Op Unit) : Op Reply := do
  let r ← attempt x
  return replyOf (fun _ => .unit) r

/-- A request whose reply never needs the bus (45_control R452, R453); another request would have no such reply. -/
def answered (i : Instr) : Op Reply := orImmediate i (return .error (.badRequest (.request [])))

/-! The meanings. -/

/-- C_SNAPSHOT (45_control R451). -/
def execCSnapshot (s : State) : Host.Outcome State Fault Refusal := finish (replying cSnapshot) s

/-- C_GET_CONFIG (45_control R452). -/
def execCGetConfig (key : Option Text) (s : State) : Host.Outcome State Fault Refusal :=
  finish (replying (answered (.cGetConfig key))) s

/-- C_SET_CONFIG (45_control R453). -/
def execCSetConfig (key : Text) (value : CfgValue) (s : State) : Host.Outcome State Fault Refusal :=
  finish (replying (answered (.cSetConfig key value))) s

/-- C_GET_USB (45_control R463). -/
def execCGetUsb (p : Int) (s : State) : Host.Outcome State Fault Refusal :=
  finish (replying (orImmediate (.cGetUsb p) (cGetUsb p))) s

/-- C_SET_USB (45_control R464). -/
def execCSetUsb (p : Int) (on : Bool) (s : State) : Host.Outcome State Fault Refusal :=
  finish (replying (orImmediate (.cSetUsb p on) (cSetUsb p on))) s

/-- C_SHUTDOWN (45_control R466). -/
def execCShutdown (s : State) : Host.Outcome State Fault Refusal := finish (replying cShutdown) s

/-- C_STANDBY (45_control R467, R468). -/
def execCStandby (arg : StandbyArg) (s : State) : Host.Outcome State Fault Refusal :=
  finish (replying (orImmediate (.cStandby arg) (cStandby arg))) s

/-- C_UPLOAD (45_control R470). -/
def execCUpload (image : List Byte) (s : State) : Host.Outcome State Fault Refusal :=
  finish (replying (cUpload (dfuUpload (.uploadRequest image) image))) s

end Sys2Proof.Machine
end

