-- ==== Sys2Proof/Machine/Power.lean ====
section
/-! DEFINITION. The supervisor: tick, sampler, watchdog schedule, power state machine, shutdown and exit sequences (42_power_fsm R300 to R333). -/

namespace Sys2Proof.Machine

/-- `WD_FEED_MS` (00_scope section 3). -/
def wdFeedMs : Nat := 5000

/-- `EXIT_SEQ(code)` from its `Lock()` on (42_power_fsm R331, R332): under the lock the watchdog is disabled, a failure
ignored; then the exit code is written and emitted. -/
def exitFrom (code : Fin 3) : Op Unit := do
  acquire (.exit code)
  let _ ← attempt wdDisable
  unlock
  modify fun s => { s.emit (.exit code) with exitCode := some code, pcSup := .exited }

/-- `EXIT_SEQ(code)` (42_power_fsm R331). -/
def exitSeq (code : Fin 3) : Op Unit := do
  setSup .exiting
  exitFrom code

/-- A successful feed or arm is remembered with the tick's time (42_power_fsm R304, R310, R320). -/
def noteFed (now : Nat) : Op Unit := modify fun s => { s with lastFed := some now }

/-- A fatal transport error of the supervisor in Start, Ok or Blackout ends the tick; every other one is passed over
(42_power_fsm R301, R322, R333; 60_exceptions R611). -/
def endTickIfFatal (e : TransportError) : Op Unit := do
  let s ← get
  if transportFatal e && exitsOnFatal s.fsm then raise (.transport e) else return ()

/-- `START_STEP(now)` (42_power_fsm R310). -/
def startStep (now : Nat) : Op Unit := do
  match ← attemptTransport wdArm with
  | .ok _ => modify fun s => { s with lastFed := some now, fsm := .ok }
  | .error e => endTickIfFatal e

/-- The sample of a tick (42_power_fsm R303). -/
def takeSampleOp : Op Sample := do
  match ← attemptTransport readMeasurements with
  | .ok m => do
    modify fun s => { s with measLast := some m }
    return .ok m
  | .error e => do
    endTickIfFatal e
    return .err e

/-- The states in which the periodic feed runs (42_power_fsm R304, R305, log 9). -/
def feedsIn : FsmState → Bool
  | .start => false
  | .ok => true
  | .blackout => true
  | .shutdown => true
  | .dead => false

/-- The feed is due (42_power_fsm R304). A last feed later than `now`, which no run reaches, counts as just made
(DESIGN CHOICE, log 41). -/
def feedDue (lastFed : Option Nat) (now : Nat) : Bool :=
  match lastFed with
  | none => true
  | some t => decide (wdFeedMs ≤ now - t)

/-- `FEED_IF_DUE(now)` (42_power_fsm R304). -/
def feedIfDue (now : Nat) : Op Unit := do
  let s ← get
  if feedsIn s.fsm && feedDue s.lastFed now then do
    match ← attemptTransport wdFeed with
    | .ok _ => noteFed now
    | .error e => endTickIfFatal e
  else return ()

/-- `SHUTDOWN_SEQ` (42_power_fsm R321 to R325): the request write once and whatever its outcome, then the launch, then Dead;
an empty command is a dry run; a failed launch is recorded and stays. -/
def shutdownSeq : Op Unit := do
  let s ← get
  if s.step1Done then launch
  else do
    let _ ← attempt requestShutdown
    modify fun s => { s with step1Done := true }
    launch
where
  /-- Steps (2) and (3) (42_power_fsm R321). The error that a failed launch records (R323) stays recorded when a later launch
  succeeds (DESIGN CHOICE, log 49). -/
  launch : Op Unit := do
    let s ← get
    if s.cfg.poweroff = [] then modify fun s => { s with fsm := .dead }
    else do
      let ok ← popLaunch
      emit (.poweroff s.cfg.poweroff ok)
      if ok then modify fun s => { s with fsm := .dead }
      else modify fun s => { s with supErr := some .poweroffLaunchFailed }

/-- The final feed (42_power_fsm R320); its failure, of whatever class, is passed over (R322). -/
def finalFeed (now : Nat) : Op Unit := do
  match ← attemptTransport wdFeed with
  | .ok _ => noteFed now
  | .error _ => return ()

/-- Entering Shutdown (42_power_fsm R320): state, final feed, and whatever its outcome the shutdown sequence. -/
def enterShutdown (now : Nat) : Op Unit := do
  modify fun s => { s with fsm := .shutdown }
  finalFeed now
  shutdownSeq

/-- A set shutdown intent is acted on first (42_power_fsm R315). -/
def actOnIntent (now : Nat) : Op Unit := do
  modify fun s => { s with intent := false, step1Done := true, t0 := none }
  enterShutdown now

/-- State Ok without an intent (42_power_fsm R311, R312): strictly below the limit enters Blackout. -/
def okStep (vlim : Rat) (r : Sample) (now : Nat) : Op Unit := do
  let s ← get
  match r with
  | .ok m =>
    if scaled m.vin s.par.fsVin < vlim then modify fun s => { s with t0 := some now, fsm := .blackout } else return ()
  | .err _ => return ()

/-- State Blackout without an intent (42_power_fsm R313, R314, R318): recovery first, then the time limit. A time operand before
`t0` (40_transport R219 has none) counts as no time passed (DESIGN CHOICE, log 41). -/
def blackoutStep (vlim tlim : Rat) (r : Sample) (now : Nat) : Op Unit := do
  let s ← get
  match r with
  | .ok m =>
    if vlim ≤ scaled m.vin s.par.fsVin then modify fun s => { s with fsm := .ok, t0 := none }
    else
      match s.t0 with
      | none => stop .emptyRegister
      | some t => if 1000 * tlim ≤ ((now - t : Nat) : Rat) then enterShutdown now else return ()
  | .err _ => return ()

/-- `FSM_STEP(r, now)` with the limits the tick read (42_power_fsm R311 to R318, R461). -/
def fsmStepAt (vlim tlim : Rat) (r : Sample) (now : Nat) : Op Unit := do
  let s ← get
  match s.fsm with
  | .dead => return ()
  | .shutdown => do
    modify fun s => { s with intent := false }
    shutdownSeq
  | .start => if s.intent then actOnIntent now else return ()
  | .ok => if s.intent then actOnIntent now else okStep vlim r now
  | .blackout => if s.intent then actOnIntent now else blackoutStep vlim tlim r now

/-- What a tick does under its lock hold (42_power_fsm R301, R302, R307). No rule names the supervisor's control point while
START_STEP runs: it stays at WaitLock through the arm write (DESIGN CHOICE, log 43). -/
def tickBody (vlim tlim : Rat) : Op Unit := do
  let now ← clock
  let s ← get
  if s.fsm = .start ∧ s.intent = false then startStep now
  else do
    setSup .sample
    let r ← takeSampleOp
    setSup .feed
    feedIfDue now
    setSup .step
    fsmStepAt vlim tlim r now

/-- `TICK` from its `Lock()` on (42_power_fsm R301): one hold, whose fatal error ends in the exit sequence (R333). The limits
are those the tick read as it began. -/
def tickFrom (vlim tlim : Rat) : Op Unit := do
  acquire (.tick vlim tlim)
  let r ← attempt (tickBody vlim tlim)
  unlock
  match r with
  | .ok _ => setSup .sleeping
  | .error _ => exitSeq 1

/-- `TICK` (42_power_fsm R301): signal, then Dead, each once and before `Lock()`; the limits are read here (45_control R461,
log 12). -/
def tick : Op Unit := do
  let s ← get
  modify State.beginTick
  if s.sigCancel then exitFrom 0
  else if s.fsm = .dead then return ()
  else tickFrom s.cfg.vlim s.cfg.tlim

/-! The meanings. -/

/-- TICK (42_power_fsm R301). -/
def execTick (s : State) : Host.Outcome State Fault Refusal := finish (doing tick) s

/-- FSM_STEP (42_power_fsm R311 to R318), with the configuration's present limits. -/
def execFsmStep (r : Sample) (now : Nat) (s : State) : Host.Outcome State Fault Refusal :=
  finish (doing (fsmStepAt s.cfg.vlim s.cfg.tlim r now)) s

/-- SHUTDOWN_SEQ (42_power_fsm R321). -/
def execShutdownSeq (s : State) : Host.Outcome State Fault Refusal := finish (doing shutdownSeq) s

/-- EXIT_SEQ (42_power_fsm R331); its code is 0 or 1. -/
def execExitSeq (code : Fin 2) (s : State) : Host.Outcome State Fault Refusal :=
  finish (doing (exitSeq (code.castLE (by decide)))) s

end Sys2Proof.Machine
end

