-- ==== Sys2Proof/Machine/Startup.lean ====
section
/-! DEFINITION. Reset: the STARTUP sequence (70_reset R700 to R707, R717). -/

namespace Sys2Proof.Machine

/-- An exit before the bus was opened: the code is written and emitted, nothing is sent (70_reset R700, R705). R700 says only
"stop" there; that the supervisor, which never started, is then at Exited is the model's (DESIGN CHOICE, log 47). -/
def exitBeforeBus (code : Fin 3) (e : Err) : Op Unit :=
  modify fun s => { s.emit (.exit code) with exitCode := some code, supErr := some e, pcSup := .exited }

/-- The agents start (70_reset R700): the supervisor at Init, the signal input at Idle whatever is latched (R706), also where
a signal in STARTUP had moved it to Signalled (log 50). -/
def startAgents : Op Unit := modify fun s => { s with up := true, pcSup := .init, pcSig := .idle }

/-- The first arm (70_reset R702). -/
def firstArm : Op Unit := do
  match ← attemptTransport wdArm with
  | .ok _ => do
    modify fun s => { s with lastFed := some s.now, fsm := .ok }
    unlock
    startAgents
  | .error e =>
    if transportFatal e then do
      unlock
      exitSeq 1
    else do
      modify fun s => { s with fsm := .start }
      unlock
      startAgents

/-- STARTUP from the open bus on (70_reset R700, R701). R700 names no agent for its `Lock()`: the holder is the agent that runs
STARTUP, the supervisor after reset (DESIGN CHOICE, log 39). -/
def startOnBus : Op Unit := do
  acquire .startup
  match ← attemptTransport rdFwver with
  | .error e => do
    unlock
    modify fun s => { s with supErr := some (.startupReadFailed e) }
    exitSeq 1
  | .ok v => do
    modify fun s => { s with dialect := some (dialectOf v.major) }
    firstArm

/-- STARTUP from a valid configuration on (70_reset R700). -/
def openBus (c : Cfg) : Op Unit := do
  modify fun s => { s with cfg := c }
  let o ← popOpen
  suspend o.susp.dur o.susp
  emit (.openBus c.busIndex c.deviceAddress o.failed)
  match o.failed with
  | some e => exitBeforeBus 1 (.busOpenFailed e)
  | none => do
    modify fun s => { s with busOpen := true, handle := some ⟨c.busIndex, c.deviceAddress⟩ }
    startOnBus

/-- Reset runs once: on a block whose bus is open, or that exited, it is a fault of the model (70_reset R700, R708). -/
def guardReset : Op Unit := do
  let s ← get
  if s.busOpen = true ∨ s.pcSup = .exited then stop .alreadyStarted else return ()

/-- `STARTUP` (70_reset R700). -/
def startup : Op Unit := do
  guardReset
  let b ← popBoot
  let s ← get
  match configOf s.par b with
  | .error f => exitBeforeBus 2 (.configInvalid f)
  | .ok c => openBus c

/-! The meaning. -/

/-- STARTUP (70_reset R700). -/
def execStartup (s : State) : Host.Outcome State Fault Refusal := finish (doing startup) s

end Sys2Proof.Machine
end

