-- ==== Sys2Proof/Machine/Dispatch.lean ====
section
/-! DEFINITION. One arm per operation of spec/opcode_table.json. -/

namespace Sys2Proof.Machine

def exec (i : Instr) (s : State) : Host.Outcome State Fault Refusal :=
  match i with
  | .rdreg r n => Sys2Proof.Machine.execRdreg r n s
  | .wrreg r data => Sys2Proof.Machine.execWrreg r data s
  | .rdHwver => Sys2Proof.Machine.execRdHwver s
  | .rdFwver => Sys2Proof.Machine.execRdFwver s
  | .rdDevid => Sys2Proof.Machine.execRdDevid s
  | .rdWdt => Sys2Proof.Machine.execRdWdt s
  | .wdArm => Sys2Proof.Machine.execWdArm s
  | .wdFeed => Sys2Proof.Machine.execWdFeed s
  | .wdDisable => Sys2Proof.Machine.execWdDisable s
  | .rdPon => Sys2Proof.Machine.execRdPon s
  | .wrPon v => Sys2Proof.Machine.execWrPon v s
  | .rdVin => Sys2Proof.Machine.execRdVin s
  | .rdVscap => Sys2Proof.Machine.execRdVscap s
  | .rdIin => Sys2Proof.Machine.execRdIin s
  | .rdTmcu => Sys2Proof.Machine.execRdTmcu s
  | .rdTpcb => Sys2Proof.Machine.execRdTpcb s
  | .rdPstate => Sys2Proof.Machine.execRdPstate s
  | .rdUsb0 => Sys2Proof.Machine.execRdUsb0 s
  | .rdUsb1 => Sys2Proof.Machine.execRdUsb1 s
  | .rdUsb2 => Sys2Proof.Machine.execRdUsb2 s
  | .rdUsb3 => Sys2Proof.Machine.execRdUsb3 s
  | .wrUsb0 on => Sys2Proof.Machine.execWrUsb0 on s
  | .wrUsb1 on => Sys2Proof.Machine.execWrUsb1 on s
  | .wrUsb2 on => Sys2Proof.Machine.execWrUsb2 on s
  | .wrUsb3 on => Sys2Proof.Machine.execWrUsb3 on s
  | .wrShutdown => Sys2Proof.Machine.execWrShutdown s
  | .wrStandby seconds => Sys2Proof.Machine.execWrStandby seconds s
  | .wrDfuStart size => Sys2Proof.Machine.execWrDfuStart size s
  | .rdDfuStatus => Sys2Proof.Machine.execRdDfuStatus s
  | .rdDfuBw => Sys2Proof.Machine.execRdDfuBw s
  | .wrDfuBlock index data => Sys2Proof.Machine.execWrDfuBlock index data s
  | .wrDfuCommit => Sys2Proof.Machine.execWrDfuCommit s
  | .wrDfuAbort => Sys2Proof.Machine.execWrDfuAbort s
  | .rdu8 r => Sys2Proof.Machine.execRdu8 r s
  | .rdu16 r => Sys2Proof.Machine.execRdu16 r s
  | .rdu32 r => Sys2Proof.Machine.execRdu32 r s
  | .rdword r => Sys2Proof.Machine.execRdword r s
  | .wru8 r v => Sys2Proof.Machine.execWru8 r v s
  | .wru16 r v => Sys2Proof.Machine.execWru16 r v s
  | .wru32 r v => Sys2Proof.Machine.execWru32 r v s
  | .readMeasurements => Sys2Proof.Machine.execReadMeasurements s
  | .getUsb port => Sys2Proof.Machine.execGetUsb port s
  | .setUsb port on => Sys2Proof.Machine.execSetUsb port on s
  | .requestShutdown => Sys2Proof.Machine.execRequestShutdown s
  | .requestStandby seconds => Sys2Proof.Machine.execRequestStandby seconds s
  | .tick => Sys2Proof.Machine.execTick s
  | .fsmStep sample now => Sys2Proof.Machine.execFsmStep sample now s
  | .shutdownSeq => Sys2Proof.Machine.execShutdownSeq s
  | .exitSeq code => Sys2Proof.Machine.execExitSeq code s
  | .startup => Sys2Proof.Machine.execStartup s
  | .crc32 data => Sys2Proof.Machine.execCrc32 data s
  | .frame index data => Sys2Proof.Machine.execFrame index data s
  | .partition image => Sys2Proof.Machine.execPartition image s
  | .dfuUpload image => Sys2Proof.Machine.execDfuUpload image s
  | .dfuPrewait index => Sys2Proof.Machine.execDfuPrewait index s
  | .dfuSend index => Sys2Proof.Machine.execDfuSend index s
  | .dfuDrain total => Sys2Proof.Machine.execDfuDrain total s
  | .dfuCommitSeq => Sys2Proof.Machine.execDfuCommitSeq s
  | .dfuAbortSeq => Sys2Proof.Machine.execDfuAbortSeq s
  | .cSnapshot => Sys2Proof.Machine.execCSnapshot s
  | .cGetConfig key => Sys2Proof.Machine.execCGetConfig key s
  | .cSetConfig key value => Sys2Proof.Machine.execCSetConfig key value s
  | .cGetUsb port => Sys2Proof.Machine.execCGetUsb port s
  | .cSetUsb port on => Sys2Proof.Machine.execCSetUsb port on s
  | .cShutdown => Sys2Proof.Machine.execCShutdown s
  | .cStandby arg => Sys2Proof.Machine.execCStandby arg s
  | .cUpload image => Sys2Proof.Machine.execCUpload image s

end Sys2Proof.Machine
end

