-- ==== Sys2Proof/Machine/Sched.lean ====
section
/-! DEFINITION. What runs next: the supervisor's loop (42_power_fsm R300), the control-port agents (45_control R450), the agents that wait at Lock() (10_state R30), replies, the idle block, and operations given on the operation port (log 4). -/

namespace Sys2Proof.Machine

/-! The operation port. -/

/-- Operations that run inside their caller's lock hold: they take no lock themselves (41_register_ops, 43_dfu_framer section
3, 44_dfu_engine R385 to R400). The others take the lock where they need it, or issue nothing. -/
def callerHolds : Instr → Bool
  | .rdreg _ _ => true
  | .wrreg _ _ => true
  | .rdHwver => true
  | .rdFwver => true
  | .rdDevid => true
  | .rdWdt => true
  | .wdArm => true
  | .wdFeed => true
  | .wdDisable => true
  | .rdPon => true
  | .wrPon _ => true
  | .rdVin => true
  | .rdVscap => true
  | .rdIin => true
  | .rdTmcu => true
  | .rdTpcb => true
  | .rdPstate => true
  | .rdUsb0 => true
  | .rdUsb1 => true
  | .rdUsb2 => true
  | .rdUsb3 => true
  | .wrUsb0 _ => true
  | .wrUsb1 _ => true
  | .wrUsb2 _ => true
  | .wrUsb3 _ => true
  | .wrShutdown => true
  | .wrStandby _ => true
  | .wrDfuStart _ => true
  | .rdDfuStatus => true
  | .rdDfuBw => true
  | .wrDfuBlock _ _ => true
  | .wrDfuCommit => true
  | .wrDfuAbort => true
  | .rdu8 _ => true
  | .rdu16 _ => true
  | .rdu32 _ => true
  | .rdword _ => true
  | .wru8 _ _ => true
  | .wru16 _ _ => true
  | .wru32 _ _ => true
  | .readMeasurements => true
  | .getUsb _ => true
  | .setUsb _ _ => true
  | .requestShutdown => true
  | .requestStandby _ => true
  | .tick => false
  | .fsmStep _ _ => true
  | .shutdownSeq => true
  | .exitSeq _ => false
  | .startup => false
  | .crc32 _ => false
  | .frame _ _ => false
  | .partition _ => false
  | .dfuUpload _ => false
  | .dfuPrewait _ => true
  | .dfuSend _ => true
  | .dfuDrain _ => true
  | .dfuCommitSeq => true
  | .dfuAbortSeq => true
  | .cSnapshot => false
  | .cGetConfig _ => false
  | .cSetConfig _ _ => false
  | .cGetUsb _ => false
  | .cSetUsb _ _ => false
  | .cShutdown => false
  | .cStandby _ => false
  | .cUpload _ => false

/-- The end of a hold that the operation port opened for an operation: the lock is released if the agent still holds it. -/
def State.releasePort (s : State) : State :=
  if s.holder = some s.cur then { s.emit (.unlock s.cur) with holder := none } else s

/-- An operation inside a hold opened and closed around it, where the running agent does not hold the lock already. -/
def execHeld (i : Instr) (s : State) : Host.Outcome State Fault Refusal :=
  match s.holder with
  | none =>
    match exec i s.takeLock with
    | .next t => .next t.releasePort
    | .fault f => .fault f
    | .refused r => .refused r
  | some _ => exec i s

/-- An operation issued on the operation port for the agent `cur` (log 4). -/
def issue (i : Instr) (s : State) : Host.Outcome State Fault Refusal :=
  if callerHolds i then execHeld i s else exec i s

/-! What can run next. -/

/-- What a step of the block can be (60_exceptions R640, log 1): a run of one agent to its next suspension point without the
lock, that is a tick that begins, a request that starts, an agent that goes on from `Lock()`, or a reply that is sent; or, while
requests are being read and replies written, time that passes. -/
inductive Task where
  | tick
  | request (k : Nat)
  | resume (w : Waiter)
  | send (a : Agent)
  | pass
deriving DecidableEq, Repr, Inhabited

/-- Whether the supervisor can begin a tick: it has just started, or its sleep is over (42_power_fsm R300, R330). -/
def State.supReady (s : State) : Bool :=
  match s.pcSup with
  | .init => true
  | .sleeping => s.sigCancel || decide (s.supWake.getD s.now ≤ s.now)
  | .waitLock => false
  | .sample => false
  | .feed => false
  | .step => false
  | .exiting => false
  | .exited => false

/-- Who runs without delay: the supervisor when its tick is due (42_power_fsm R300), and an agent at `Lock()` when the lock is
free (10_state R30). -/
def State.due (s : State) : List Task :=
  (if s.supReady then [.tick] else []) ++ if s.holder = none then s.waiters.map .resume else []

/-- The reads and writes of the control port that are under way: requests received and replies not yet sent (45_control R450). -/
def State.ipc (s : State) : List Task :=
  (s.reqs.filter Request.arrived).map (fun q => .request q.id) ++ s.replies.map fun x => .send x.1

/-- What can run now. The reads and writes of the control port are suspension points (60_exceptions R640): while one is under way
and nobody runs without delay, time may pass before it ends, and what lands then lands before it (log 16). -/
def State.tasks (s : State) : List Task :=
  s.due ++ s.ipc ++ if s.due.isEmpty && !s.ipc.isEmpty then [.pass] else []

/-- An operation from its `Lock()` on (10_state R30). -/
def resume : Hold → Op Result
  | .startup => doing startOnBus
  | .tick vlim tlim => doing (tickFrom vlim tlim)
  | .exit code => doing (exitFrom code)
  | .upload image => doing (uploadFrom (.upload image) image)
  | .snapshot => replying cSnapshot
  | .getUsb p => replying (cGetUsb p)
  | .setUsb p on => replying (cSetUsb p on)
  | .shutdown => replying cShutdown
  | .standby seconds => replying (standbyWrite seconds)
  | .uploadRequest image => replying (cUpload (uploadFrom (.uploadRequest image) image))

/-- The request of agent `ctrl k` starts (45_control R450); a word that is no request is refused (30_encoding R130). -/
def runRequest (k : Nat) (s : State) : Host.Outcome State Fault Refusal :=
  match s.reqs.find? fun q => q.id == k with
  | none => .next s
  | some q =>
    match decodeRequest q.word with
    | some i => exec i { s.markRunning k with cur := .ctrl k }
    | none => finish (replying (return .error (.badRequest (.request q.word)))) { s.markRunning k with cur := .ctrl k }

/-- An agent goes on from `Lock()`. -/
def runWaiter (w : Waiter) (s : State) : Host.Outcome State Fault Refusal :=
  finish (resume w.hold) { s with cur := w.agent, waiters := s.waiters.erase w }

/-- Nobody runs: time passes, to the supervisor's wake time, or to the first arrival before it (log 35). -/
def idle : Op Unit := do
  let p ← popIdle
  let s ← get
  suspend (match p.acts with
    | [] => s.supWake.getD s.now - s.now
    | a :: _ => min a.after (s.supWake.getD s.now - s.now)) { p with acts := p.acts.take 1 }

/-- A step in which nobody runs. -/
def runIdle (s : State) : Host.Outcome State Fault Refusal :=
  match idle s with
  | .ok _ u => .next u
  | .error .cut u => .next u.powerCut
  | .error (.stop f) _ => .fault f
  | .error (.raise _) u => .next u
  | .error .wait u => .next u

/-- One run of one agent, or time that passes; the signal input has no run of its own, a signal lands at a suspension point. -/
def runTask (k : Task) (s : State) : Host.Outcome State Fault Refusal :=
  match k with
  | .tick => exec .tick { s with cur := .supervisor }
  | .request k => runRequest k s
  | .resume w => runWaiter w s
  | .send a => .next (s.send a)
  | .pass => runIdle s

/-- The next run of the started block: a draw among those that can run (10_state R30, 60_exceptions R641), or the idle wait. The
supervisor's sleep begins in the step after its tick, at the same clock value. -/
def schedule (s : State) : Host.Outcome State Fault Refusal :=
  match s.arm.tasks with
  | [] => runIdle s.arm
  | k :: ks =>
    match popAgent s.arm with
    | .ok n u => runTask ((k :: ks).getD (n % (ks.length + 1)) k) u
    | .error _ u => .next u

/-- The block's next operation by its own rules: STARTUP first (70_reset R700), then whatever can run. -/
def agentStep (s : State) : Host.Outcome State Fault Refusal :=
  if s.up then schedule s else exec .startup s

/-- The block as a started one, for an operation given from outside: the bus open and the dialect set (70_reset R707), the
agents started (log 4). -/
def State.started (s : State) : State :=
  { s with
    busOpen := true
    up := true
    dialect := some (s.dialect.getD .two)
    handle := some (s.handle.getD ⟨s.cfg.busIndex, s.cfg.deviceAddress⟩) }

/-- Whether a word is STARTUP's, the one operation of a block not yet started. -/
def isStartupWord (w : OpWord) : Bool :=
  match decode w with
  | .ok .startup => true
  | _ => false

end Sys2Proof.Machine
end

