-- ==== Sys2Proof/Machine/Step.lean ====
section
/-! DEFINITION. The step of the machine: the operation on the operation port if there is one, else the block's own next operation. -/

namespace Sys2Proof.Machine

/-- One step (60_exceptions R640, log 1, log 4); an exited block does nothing more (log 22). -/
def step (s : State) : Host.Outcome State Fault Refusal :=
  if s.pcSup = .exited then .next s
  else
    match s.opPort with
    | [] => agentStep s
    | w :: rest =>
      match decode w with
      | .ok i => issue i { s with opPort := rest }
      | .error _ => .refused .undecodable

/-- The state whose next step runs a table word: the word stands on the operation port of a started block, so that its
transactions have a bus; STARTUP's own word leaves the block as it is (log 4). -/
def State.withFetchWord (s : State) (nbits w : Nat) : State :=
  if isStartupWord (tableWord nbits w) then { s with opPort := [tableWord nbits w] }
  else { s.started with opPort := [tableWord nbits w] }

end Sys2Proof.Machine
end

