-- ==== Sys2Proof/Safety.lean ====
section
/-! DEFINITION. What the statements speak of: results, settled answers and sleeps, the registers an operation leaves alone, the events it adds, and the invariants of a running block. -/

namespace Sys2Proof.Machine

/-! Results. -/

/-- The state with a value as the operation's result. -/
def State.gives (s : State) (v : Value) : State := { s with result := some (.value v) }

/-- The state with an error as the operation's result. -/
def State.fails (s : State) (e : Err) : State := { s with result := some (.error e) }

/-- The state in which the running agent's reply is on its way, the reply being the operation's result. -/
def State.answered (s : State) (r : Reply) : State := { s.post s.cur r with result := some (.reply r) }

/-! Texts and configuration values. -/

/-- A string of ASCII characters as bytes. -/
def asciiText (s : String) : Text := s.toList.map fun c => BitVec.ofNat 8 c.toNat

/-- The configuration keys of 45_control R460. -/
def configKeys : List Text :=
  ["i2c_bus", "i2c_addr", "blackout_voltage_limit", "blackout_time_limit", "socket", "socket_group", "poweroff"].map asciiText

/-- A configuration value is the rational `q`; a whole number is one (log 24). -/
def isRat (v : CfgValue) (q : Rat) : Prop := v = .rat q ∨ ∃ n : Int, v = .int n ∧ q = n

/-! Transaction attempts that are answered. -/

/-- The running agent holds the lock of the open bus, `d` is the next bus draw, and host power lasts until its answer. -/
def State.awaits (s : State) (d : BusDraw) : Prop :=
  s.busOpen = true ∧ s.holder = some s.cur ∧ s.inp.bus.head? = some d ∧ d.susp.cut = false ∧
    s.comp.wdog.expired (s.now + d.susp.dur) = false

/-- The state when the answer of draw `d` comes: the draw is used up, time has passed, what landed is taken. -/
def State.atAnswer (s : State) (d : BusDraw) : State :=
  { s with inp := { s.inp with bus := s.inp.bus.tail } }.elapse (s.now + d.susp.dur) d.susp.acts

/-- The companion's answer to a read attempt and the companion after it. -/
def State.readAnswer (s : State) (d : BusDraw) (r : Byte) (n : Nat) : Except Failure (List Byte) × Companion :=
  s.comp.answerRead s.par.wdAnyTraffic (s.now + d.susp.dur) r n d.resp

/-- The companion's answer to a write attempt and the companion after it. -/
def State.writeAnswer (s : State) (d : BusDraw) (r : Byte) (data : List Byte) : Except Failure Unit × Companion :=
  s.comp.answerWrite s.par.wdAnyTraffic (s.now + d.susp.dur) r data d.resp

/-- The state after a read attempt answered by draw `d`. -/
def State.didRead (s : State) (d : BusDraw) (r : Byte) (n : Nat) : State :=
  { (s.atAnswer d).emit (.read r n (s.readAnswer d r n).1) with comp := (s.readAnswer d r n).2 }

/-- The state after a write attempt answered by draw `d`. -/
def State.didWrite (s : State) (d : BusDraw) (r : Byte) (data : List Byte) : State :=
  { (s.atAnswer d).emit (.write r data (s.writeAnswer d r data).1) with comp := (s.writeAnswer d r data).2 }

/-- A read attempt of `n` bytes of `r` succeeds with `bs`. -/
def State.reads (s : State) (d : BusDraw) (r : Byte) (n : Nat) (bs : List Byte) : Prop :=
  s.awaits d ∧ (s.readAnswer d r n).1 = .ok bs

/-- A write attempt of `data` to `r` succeeds. -/
def State.writes (s : State) (d : BusDraw) (r : Byte) (data : List Byte) : Prop :=
  s.awaits d ∧ (s.writeAnswer d r data).1 = .ok ()

/-! Sleeps. -/

/-- `p` is the next settled sleep, and host power lasts through a sleep of at least `ms`. -/
def State.rests (s : State) (p : Susp) (ms : Nat) : Prop :=
  s.inp.sleep.head? = some p ∧ p.cut = false ∧ s.comp.wdog.expired (s.now + (ms + p.dur)) = false

/-- The state after that sleep. -/
def State.didSleep (s : State) (p : Susp) (ms : Nat) : State :=
  { s.emit (.sleep ms) with inp := { s.inp with sleep := s.inp.sleep.tail } }.elapse (s.now + (ms + p.dur)) p.acts

/-! Host power cuts. -/

/-- Host power is cut at the clock value `cut` in a suspension of `ms` milliseconds with draw `p` (60_exceptions R639, log 46): in the
first millisecond after a deadline that passes before the suspension ends, else at the drawn time. -/
def State.cutIn (s : State) (p : Susp) (ms cut : Nat) : Prop :=
  (∃ timeout deadline, s.comp.wdog = .armed timeout deadline ∧
      deadline < s.now + (if p.cut then min p.dur ms else ms) ∧ cut = max s.now (deadline + 1)) ∨
    (p.cut = true ∧ s.comp.wdog.expired (s.now + min p.dur ms) = false ∧ cut = s.now + min p.dur ms)

/-! The lock. -/

/-- The lock is free. -/
def State.canLock (s : State) : Prop := s.holder = none

/-- The running agent releases the lock. -/
def State.dropLock (s : State) : State := { s.emit (.unlock s.cur) with holder := none }

/-! What an operation leaves alone. -/

/-- `t` is `s` but for what the ports, the companion and what lands at a suspension point may change (a signal, requests, other
agents' runs up to their `Lock()` or their reply): every register of the power machine, of the bus handle, of the lock, of the
session, the last snapshot, the exit code and the parameters are the same. The supervisor's control point changes only where the
supervisor is not the running agent and a tick of it begins; the running agent's engine stays at its control point; who waits
goes on waiting. -/
def State.sameBlock (s t : State) : Prop :=
  t = { s with
    cfg := t.cfg, sigCancel := t.sigCancel, pcSig := t.pcSig, pcSup := t.pcSup, supWake := t.supWake, pcDfu := t.pcDfu,
    reqs := t.reqs, nextReq := t.nextReq, waiters := t.waiters, replies := t.replies, now := t.now, comp := t.comp,
    inp := t.inp, trace := t.trace, result := t.result } ∧
  (s.cur = .supervisor → t.pcSup = s.pcSup ∧ t.supWake = s.supWake) ∧
  (t.pcSup = s.pcSup ∨
    ((s.pcSup = .init ∨ s.pcSup = .sleeping) ∧ (t.pcSup = .sleeping ∨ t.pcSup = .waitLock ∨ t.pcSup = .exiting))) ∧
  t.pcDfu.lookup s.cur = s.pcDfu.lookup s.cur ∧
  (∃ ws, t.waiters = s.waiters ++ ws)

/-- `t` is what a host power cut leaves of some state. -/
def State.wasCut (t : State) : Prop := ∃ u : State, t = u.powerCut

/-! Events. -/

/-- The events of `t` that `s` does not have yet. -/
def State.newEvents (s t : State) : List Event := (t.trace.drop s.trace.length).map Prod.snd

/-- The register of a successful read. -/
def Event.readReg : Event → Option Byte
  | .read r _ (.ok _) => some r
  | _ => none

/-- A transaction attempt. -/
def Event.isAttempt : Event → Bool
  | .read _ _ _ => true
  | .write _ _ _ => true
  | .dialect1 _ _ => true
  | _ => false

/-- A write attempt to `r`. -/
def Event.isWriteTo (r : Byte) : Event → Bool
  | .write q _ _ => q == r
  | _ => false

/-- The data of a successful write to `r`. -/
def Event.writtenTo (r : Byte) : Event → Option (List Byte)
  | .write q data (.ok _) => if q = r then some data else none
  | _ => none

/-- A block write that succeeded, or a progress report. -/
def Event.isBlockDone : Event → Bool
  | .write r _ (.ok _) => r == 0x43
  | .progress _ _ _ => true
  | _ => false

/-- The command of a launch that succeeded. -/
def Event.isLaunch : Event → Bool
  | .poweroff _ ok => ok
  | _ => false

/-! Operations of one shape. -/

/-- The two-byte reads that honour the dialect, with their registers (30_encoding R110). -/
def wordReads : List (Instr × Byte) :=
  [ (.rdWdt, 0x10), (.rdPon, 0x11), (.rdVin, 0x20), (.rdVscap, 0x21), (.rdIin, 0x22), (.rdTmcu, 0x23), (.rdTpcb, 0x24),
    (.rdDfuBw, 0x42) ]

/-- The writes of fixed data, with their registers and data (30_encoding R110). -/
def fixedWrites : List (Instr × Byte × List Byte) :=
  [ (.wdArm, 0x10, [0x03, 0xE8]), (.wdFeed, 0x10, [0x03, 0xE8]), (.wdDisable, 0x10, [0x00, 0x00]),
    (.wrUsb0 false, 0x26, [0x00]), (.wrUsb0 true, 0x26, [0x01]), (.wrUsb1 false, 0x27, [0x00]),
    (.wrUsb1 true, 0x27, [0x01]), (.wrUsb2 false, 0x28, [0x00]), (.wrUsb2 true, 0x28, [0x01]),
    (.wrUsb3 false, 0x29, [0x00]), (.wrUsb3 true, 0x29, [0x01]), (.wrShutdown, 0x30, [0x01]),
    (.requestShutdown, 0x30, [0x01]), (.wrDfuCommit, 0x44, [0x00]), (.wrDfuAbort, 0x45, [0x00]) ]

/-- The USB reads, with their ports. -/
def usbReads : List (Instr × Nat) := [(.rdUsb0, 0), (.rdUsb1, 1), (.rdUsb2, 2), (.rdUsb3, 3)]

/-- The named and raw operations that issue reads only, in dialect 2 (41_register_ops, 43_dfu_framer). -/
def isPureRead : Instr → Bool
  | .rdreg _ _ => true
  | .rdHwver => true
  | .rdFwver => true
  | .rdDevid => true
  | .rdWdt => true
  | .rdPon => true
  | .rdVin => true
  | .rdVscap => true
  | .rdIin => true
  | .rdTmcu => true
  | .rdTpcb => true
  | .rdPstate => true
  | .rdUsb0 => true
  | .rdUsb1 => true
  | .rdUsb2 => true
  | .rdUsb3 => true
  | .rdDfuBw => true
  | .rdu8 _ => true
  | .rdu16 _ => true
  | .rdu32 _ => true
  | .rdword _ => true
  | .readMeasurements => true
  | .getUsb _ => true
  | _ => false

/-- The register that a plain write operation writes to, where it issues a transaction. -/
def writeTarget : Instr → Option Byte
  | .wrreg r _ => some r
  | .wru8 r _ => some r
  | .wru16 r _ => some r
  | .wru32 r _ => some r
  | .wdArm => some 0x10
  | .wdFeed => some 0x10
  | .wdDisable => some 0x10
  | .wrPon _ => some 0x11
  | .wrUsb0 _ => some 0x26
  | .wrUsb1 _ => some 0x27
  | .wrUsb2 _ => some 0x28
  | .wrUsb3 _ => some 0x29
  | .setUsb p _ => some (usbReg p)
  | .wrShutdown => some 0x30
  | .requestShutdown => some 0x30
  | .wrStandby _ => some 0x31
  | .requestStandby _ => some 0x31
  | .wrDfuStart _ => some 0x40
  | .wrDfuBlock _ _ => some 0x43
  | .wrDfuCommit => some 0x44
  | .wrDfuAbort => some 0x45
  | _ => none

/-! Loops, followed step by step. -/

/-- The state after read attempts that each failed and were each followed by the backoff sleep. -/
def State.retriedReads (s : State) (r : Byte) (n : Nat) : List (BusDraw × Susp) → State
  | [] => s
  | (d, p) :: rest => ((s.didRead d r n).didSleep p 10).retriedReads r n rest

/-- Those attempts fail transiently and the sleeps end. -/
def State.retriesReads (s : State) (r : Byte) (n : Nat) : List (BusDraw × Susp) → Prop
  | [] => True
  | (d, p) :: rest =>
    s.awaits d ∧ (∃ f, (s.readAnswer d r n).1 = .error f ∧ failureFatal f = false) ∧ (s.didRead d r n).rests p 10 ∧
      ((s.didRead d r n).didSleep p 10).retriesReads r n rest

/-- The state after write attempts that each failed and were each followed by the backoff sleep. -/
def State.retriedWrites (s : State) (r : Byte) (data : List Byte) : List (BusDraw × Susp) → State
  | [] => s
  | (d, p) :: rest => ((s.didWrite d r data).didSleep p 10).retriedWrites r data rest

/-- Those attempts fail transiently and the sleeps end. -/
def State.retriesWrites (s : State) (r : Byte) (data : List Byte) : List (BusDraw × Susp) → Prop
  | [] => True
  | (d, p) :: rest =>
    s.awaits d ∧ (∃ f, (s.writeAnswer d r data).1 = .error f ∧ failureFatal f = false) ∧
      (s.didWrite d r data).rests p 10 ∧ ((s.didWrite d r data).didSleep p 10).retriesWrites r data rest

/-- The state after a status poll that read `st`: the session remembers it (10_state R26). -/
def State.polled (s : State) (d : BusDraw) (st : Byte) : State :=
  { s.didRead d 0x41 1 with session := s.session.map fun x => { x with lastStatus := some st } }

/-- One poll of a pre-block wait that goes on: the draw, the status, the sleep after it. -/
structure WaitPoll where
  draw : BusDraw
  status : Byte
  pause : Susp

/-- The milliseconds a pre-block wait sleeps after a status: 500 after Preparing, 100 after QueueFull. -/
def pauseMs (st : Byte) : Nat := if st = 1 then 500 else 100

/-- The state after polls that did not end a pre-block wait. -/
def State.afterPolls (s : State) : List WaitPoll → State
  | [] => s
  | w :: rest => ((s.polled w.draw w.status).didSleep w.pause (pauseMs w.status)).afterPolls rest

/-- Those polls answer Preparing or QueueFull before the limit has passed since `start` and with no signal, and the sleeps
end (44_dfu_engine R385). -/
def State.keepsPolling (s : State) (start : Nat) : List WaitPoll → Prop
  | [] => True
  | w :: rest =>
    s.reads w.draw 0x41 1 [w.status] ∧ (w.status = 1 ∨ w.status = 3) ∧ (s.polled w.draw w.status).now - start < 30000 ∧
      (s.polled w.draw w.status).sigCancel = false ∧ (s.polled w.draw w.status).rests w.pause (pauseMs w.status) ∧
      ((s.polled w.draw w.status).didSleep w.pause (pauseMs w.status)).keepsPolling start rest

/-- One iteration of a drain in dialect 2: the status poll, the gap, the blocks-written read, the pause after it. -/
structure DrainRound where
  draw : BusDraw
  status : Byte
  gap : Susp
  countDraw : BusDraw
  high : Byte
  low : Byte
  pause : Susp

/-- The count an iteration read. -/
def DrainRound.count (w : DrainRound) : Nat := w.high.toNat * 256 + w.low.toNat

/-- The state when the count of an iteration has been read. -/
def State.counted (s : State) (w : DrainRound) : State :=
  ((s.polled w.draw w.status).didSleep w.gap 100).didRead w.countDraw 0x42 2

/-- The two reads of an iteration succeed with a status from 1 to 4. -/
def State.counts (s : State) (w : DrainRound) : Prop :=
  s.reads w.draw 0x41 1 [w.status] ∧ 1 ≤ w.status.toNat ∧ w.status.toNat ≤ 4 ∧
    (s.polled w.draw w.status).rests w.gap 100 ∧
    ((s.polled w.draw w.status).didSleep w.gap 100).reads w.countDraw 0x42 2 [w.high, w.low]

/-- The state after iterations that did not end a drain. -/
def State.afterRounds (s : State) : List DrainRound → State
  | [] => s
  | w :: rest => ((s.counted w).didSleep w.pause 500).afterRounds rest

/-- Those iterations do not succeed, the limit has not passed since `start`, and the pauses end (44_dfu_engine R393). -/
def State.keepsDraining (s : State) (start total : Nat) : List DrainRound → Prop
  | [] => True
  | w :: rest =>
    s.counts w ∧ ¬(w.status = 4 ∧ w.count = total) ∧ (s.counted w).now - start < 5000 ∧ (s.counted w).rests w.pause 500 ∧
      ((s.counted w).didSleep w.pause 500).keepsDraining start total rest

/-! The shutdown sequence. -/

/-- A launch result is settled, or no launch is due. -/
def State.launchSettled (s : State) : Prop := s.cfg.poweroff = [] ∨ s.inp.launch ≠ []

/-- The state after steps (2) and (3) of the shutdown sequence (42_power_fsm R321, R323, R325). A launch that succeeds leaves an error
recorded before as it is (log 49). -/
def State.launched (s : State) : State :=
  if s.cfg.poweroff = [] then { s with fsm := .dead }
  else
    match s.inp.launch with
    | true :: rest =>
      { ({ s with inp := { s.inp with launch := rest } }.emit (.poweroff s.cfg.poweroff true)) with fsm := .dead }
    | false :: rest =>
      { ({ s with inp := { s.inp with launch := rest } }.emit (.poweroff s.cfg.poweroff false)) with
        supErr := some .poweroffLaunchFailed }
    | [] => s

/-! The frames of a session. -/

/-- The first `k` block writes of an upload by agent `a` of `blocks` blocks, in order, each followed by its progress report
(44_dfu_engine R390, R391). -/
def blocksDone (a : Agent) (image : List Byte) (blocks k : Nat) : List Event :=
  (List.range k).flatMap fun i => [.write 0x43 (frameBytes i (blockAt image i)) (.ok ()), .progress a (i + 1) blocks]

/-- The bus and sleep draws are settled for `b` transactions and `k` sleeps, each ending at once beyond its bound, with
nothing landing in it. -/
def State.quietFor (s : State) (b k : Nat) : Prop :=
  b ≤ s.inp.bus.length ∧ k ≤ s.inp.sleep.length ∧ (∀ d ∈ s.inp.bus, d.susp = ⟨0, [], false⟩) ∧
    ∀ p ∈ s.inp.sleep, p = ⟨0, [], false⟩

/-! Invariants. -/

/-- The companion's known registers: the canonical form, and nothing but USB values 0 and 1 (60_exceptions R631); an armed
deadline is at most its own timeout away (R632). -/
def State.companionInv (s : State) : Prop :=
  s.comp.mem.wf = true ∧
    (∀ c ∈ s.comp.mem, 0x26 ≤ c.1 ∧ c.1 ≤ 0x29 ∧ (c.2 = 0 ∨ c.2 = 1)) ∧
    ∀ timeout deadline, s.comp.wdog = .armed timeout deadline →
      0 < timeout ∧ timeout < 65536 ∧ deadline ≤ s.now + 10 * timeout

/-- The power machine: a blackout has its start time (10_state R23), the shutdown request was issued once Shutdown or Dead is
reached (42_power_fsm R321), and the supervisor is at Exited exactly when an exit code was written (R331). -/
def State.powerInv (s : State) : Prop :=
  (s.fsm = .blackout → s.t0 ≠ none) ∧ (s.fsm = .shutdown ∨ s.fsm = .dead → s.step1Done = true) ∧
    (s.pcSup = .exited ↔ s.exitCode ≠ none)

/-- What an agent that waits at `Lock()` may go on with: an image and a delay its operation has already accepted
(44_dfu_engine R381, 45_control R467), and no second reset (70_reset R708). -/
def Hold.accepted : Hold → Prop
  | .upload image => 1 ≤ image.length ∧ image.length ≤ 268431360
  | .uploadRequest image => 1 ≤ image.length ∧ image.length ≤ 268431360
  | .standby seconds => seconds < 2 ^ 32
  | .startup => False
  | _ => True

/-- Between operations no agent holds the lock and no session exists (10_state R31, R51); a started block has its bus, its
dialect and a valid configuration (70_reset R707); a block not started has no agent that could want the lock, and no open bus
unless it exited; what waits at `Lock()` was accepted before it. -/
def State.blockInv (s : State) : Prop :=
  s.holder = none ∧ s.session = none ∧
    (s.up = true → s.busOpen = true ∧ s.dialect ≠ none ∧ s.handle ≠ none ∧ cfgValid s.cfg = true) ∧
    (s.up = false → s.reqs = [] ∧ s.waiters = [] ∧ (s.busOpen = true → s.pcSup = .exited)) ∧
    ∀ w ∈ s.waiters, w.hold.accepted

/-- Between the block's own operations the supervisor is at WaitLock or Exiting exactly when it waits at `Lock()`, and at no
point inside a hold (10_state R24, 42_power_fsm R301, R332). -/
def State.supInv (s : State) : Prop :=
  ((s.pcSup = .waitLock ∨ s.pcSup = .exiting) ↔ ∃ w ∈ s.waiters, w.agent = .supervisor) ∧
    (s.waiters.filter fun w => w.agent == .supervisor).length ≤ 1 ∧
    (∀ w ∈ s.waiters, w.agent = .supervisor ↔ (∃ v l, w.hold = .tick v l) ∨ ∃ c, w.hold = .exit c) ∧
    s.pcSup ≠ .sample ∧ s.pcSup ≠ .feed ∧ s.pcSup ≠ .step

/-- The requests are numbered in arrival order (60_exceptions R640), and one is replied exactly when it has its reply
(45_control R450). -/
def State.requestInv (s : State) : Prop :=
  s.reqs.map Request.id = List.range s.nextReq ∧ ∀ q ∈ s.reqs, q.point = .replied ↔ q.reply ≠ none

/-- The trace is in the order of the clock (00_scope R6). -/
def State.clockInv (s : State) : Prop :=
  (s.trace.map Prod.fst).Pairwise (· ≤ ·) ∧ ∀ e ∈ s.trace, e.1 ≤ s.now

/-! Dialect-1 reads that are not fixed. -/

/-- The state after a suspension that ends in a successful transaction of an unstated trace: it restarts the deadline where the
parameter says so. -/
def State.didTraffic (s : State) (p : Susp) : State :=
  { s.elapse (s.now + p.dur) p.acts with
    comp := { s.comp with wdog := s.comp.wdog.touch s.par.wdAnyTraffic (s.now + p.dur) } }

/-- The state after the successful transactions of an unstated trace. -/
def State.didTrace (s : State) : List Susp → State
  | [] => s
  | p :: rest => (s.didTraffic p).didTrace rest

/-- Host power lasts through that trace. -/
def State.lasts (s : State) : List Susp → Prop
  | [] => True
  | p :: rest => p.cut = false ∧ s.comp.wdog.expired (s.now + p.dur) = false ∧ (s.didTraffic p).lasts rest

end Sys2Proof.Machine
end

