-- ==== Sys2Proof/Certificates/Slice0/Obligations.lean ====
section
/-! DEFINITION. The statements for the provers. Each docstring names the rules of spec/ it formalises, or the log entry it rests on. -/

open Sys2Proof Sys2Proof.Machine

/-! Words and steps. -/

/-- Words written out from the tables of 30_encoding R101, R110, R130 and R133 decode to their operations. -/
def Obligations.DecodeWords : Prop :=
  decode ⟨.bus, [0x41, 0x01]⟩ = .ok .rdDfuStatus ∧
  decode ⟨.bus, [0x10, 0x00, 0x03, 0xE8]⟩ = .ok .wdArm ∧
  decode ⟨.bus, [0x10, 0x00, 0x00, 0x00]⟩ = .ok .wdDisable ∧
  decode ⟨.bus, [0x28, 0x00, 0x01]⟩ = .ok (.wrUsb2 true) ∧
  decode ⟨.code, [0x10, 0x41, 0x00, 0x00, 0x00, 0x00]⟩ = .ok (.rdreg 0x41 1) ∧
  decode ⟨.code, [0x30]⟩ = .ok .tick ∧
  decode ⟨.code, [0x49, 0x00, 0x00, 0x00, 0x02]⟩ = .ok (.dfuPrewait 2) ∧
  decode ⟨.code, [0x06]⟩ = .ok .cShutdown ∧
  decode ⟨.code, [0x09]⟩ = .error (.unknownCode 0x09)

/-- Decode and encode agree: the word of every well-formed operation, with any number of zero bytes filling its slot, decodes
to that operation with every operand as it was. The operand layouts are the model's (log 5, log 6). -/
def Obligations.EncodeDecode : Prop :=
  ∀ (i : Instr) (k : Nat), i.wf = true →
    decode ⟨(encode i).fmt, (encode i).bytes ++ List.replicate k 0⟩ = .ok i

/-- A step runs the operation its word decodes to (log 4): inside a hold opened and closed around it where the operation
needs its caller's hold and the lock is free. A word that is none is refused. -/
def Obligations.StepRunsOperation : Prop :=
  ∀ (s : State) (w : OpWord) (rest : List OpWord), s.pcSup ≠ .exited → s.opPort = w :: rest →
    (∀ i, decode w = .ok i →
      step s =
        if callerHolds i = true ∧ s.holder = none then
          match exec i { s with opPort := rest }.takeLock with
          | .next t => .next (if t.holder = some t.cur then t.dropLock else t)
          | .fault f => .fault f
          | .refused r => .refused r
        else exec i { s with opPort := rest }) ∧
    ∀ e, decode w = .error e → step s = .refused .undecodable

/-- The block's own steps, with nothing on the operation port: an exited block stays (log 22), a block not started runs STARTUP
(70_reset R700), the supervisor runs its tick when its sleep is over (42_power_fsm R300), a sleep lasts 100 ms and at most the
slack more (log 33, log 35), a request runs as its own agent (45_control R450), where a word that is none is refused
(30_encoding R130), an agent that waits at Lock() goes on from there when the lock is free (10_state R30), an upload's among them
(44_dfu_engine R382) and a standby request's with the seconds its delay or wake time gave, a reply is sent in a
step of its own (60_exceptions R640, log 1), while requests are read and replies written time may pass first, up to the next tick
(R640, log 16), and a tick that is due while another agent holds the lock begins in its time, reads its limits and waits at
Lock() (R301, 44_dfu_engine R404, 45_control R461). Inside the running agent's hold a request that arrives is a new agent in
Received (R450), a signal is latched (42_power_fsm R330), a reply is sent, and a request's agent that starts is marked running and
does what exec of its request does as that agent: it replies at once, with the configuration C_SET_CONFIG leaves (ConfigRequests,
PortsOutOfRange, StandbyRequest, UploadRefused), or waits at Lock() with the hold of its operands (LockRules). -/
def Obligations.BlockSteps : Prop :=
  ∀ s : State,
    (s.pcSup = .exited → step s = .next s) ∧
    (s.pcSup ≠ .exited → s.opPort = [] →
      (s.up = false → step s = exec .startup s) ∧
      (s.up = true → ∀ n ns s0, s.inp.agent = n :: ns → s0 = { s with inp := { s.inp with agent := ns } } →
        (s.reqs.filter Request.arrived = [] → s.waiters = [] → s.replies = [] →
          s.pcSup = .init ∨ (s.pcSup = .sleeping ∧ ∃ w, s.supWake = some w ∧ (w ≤ s.now ∨ s.sigCancel = true)) →
          step s = exec .tick { s0 with cur := .supervisor }) ∧
        (s.pcSup = .waitLock ∨ s.pcSup = .exiting ∨
            (s.pcSup = .sleeping ∧ s.sigCancel = false ∧ ∃ w, s.supWake = some w ∧ s.now < w) →
          (∀ q, s.reqs.filter Request.arrived = [q] → s.waiters = [] → s.replies = [] → s.requestInv → n % 2 = 0 →
            (∀ i, decodeRequest q.word = some i → step s = exec i { s0.markRunning q.id with cur := .ctrl q.id }) ∧
            (decodeRequest q.word = none →
              step s = .next ({ s0.markRunning q.id with cur := .ctrl q.id }.answered
                (.error (.badRequest (.request q.word)))))) ∧
          (∀ w u, s.reqs.filter Request.arrived = [] → s.waiters = [w] → s.replies = [] → s.holder = none →
            u = { s0 with cur := w.agent, waiters := [] } →
            (w.hold = .snapshot → step s = exec .cSnapshot u) ∧
            (∀ p, w.hold = .getUsb p → 0 ≤ p → p ≤ 3 → step s = exec (.cGetUsb p) u) ∧
            (∀ p on, w.hold = .setUsb p on → 0 ≤ p → p ≤ 3 → step s = exec (.cSetUsb p on) u) ∧
            (w.hold = .shutdown → step s = exec .cShutdown u) ∧
            (∀ d : Nat, w.hold = .standby d → d < 2 ^ 32 → step s = exec (.cStandby (.delay d)) u) ∧
            (∀ code : Fin 2, w.hold = .exit (code.castLE (by decide)) → s.pcSup = .exiting →
              step s = exec (.exitSeq code) u) ∧
            (∀ image : List Byte, s.pcDfu.lookup w.agent = some .validate → 1 ≤ image.length → image.length ≤ 268431360 →
              (w.hold = .upload image → step s = exec (.dfuUpload image) u) ∧
              (w.hold = .uploadRequest image → step s = exec (.cUpload image) u)) ∧
            (∀ v l, w.hold = .tick v l → step s = finish (resume (.tick v l)) u)) ∧
          (∀ a r, s.reqs.filter Request.arrived = [] → s.waiters = [] → s.replies = [(a, r)] → n % 2 = 0 →
            step s = .next ({ s0 with replies := [] }.replyTo a r)) ∧
          ∀ k w p ps, k = (s.reqs.filter Request.arrived).length + s.replies.length → 0 < k → n % (k + 1) = k →
            s.waiters = [] → s.supWake = some w → s.now < w → s.inp.idle = p :: ps → p.acts = [] → p.cut = false →
            s.comp.wdog.expired w = false →
            step s = .next { s0 with now := w, inp := { s0.inp with idle := ps } })) ∧
      (s.up = true → s.pcSup = .sleeping → s.sigCancel = false → s.supWake = none →
        s.reqs.filter Request.arrived = [] → s.waiters = [] → s.replies = [] → s.holder = none →
        ∀ late lates p ps, s.inp.late = late :: lates → s.inp.idle = p :: ps → p.acts = [] → p.cut = false →
          s.comp.wdog.expired (s.now + (100 + min late s.par.tickSlackMs)) = false →
          step s = .next { s with
            supWake := some (s.now + (100 + min late s.par.tickSlackMs))
            now := s.now + (100 + min late s.par.tickSlackMs)
            inp := { s.inp with late := lates, idle := ps } })) ∧
    (∀ w till, s.up = true → s.holder ≠ none → s.cur ≠ .supervisor → s.pcSup = .sleeping → s.supWake = some w →
      s.now ≤ w → w < till → s.fsm ≠ .dead → s.sigCancel = false →
      s.elapse till [] = { s with
        now := till, supWake := none, pcSup := .waitLock
        waiters := s.waiters ++ [⟨.supervisor, .tick s.cfg.vlim s.cfg.tlim⟩] }) ∧
    ∀ (after till : Nat) (s0 : State), s.up = true → s.holder = some s.cur →
      s.cur = .supervisor ∨ s.pcSup = .waitLock ∨ s.pcSup = .exiting → s0 = { s with now := min (s.now + after) till } →
      (∀ word, s.elapse till [⟨after, .request word⟩] = { s0.emit (.request s.nextReq word) with
        now := till, nextReq := s.nextReq + 1
        reqs := s.reqs ++ [{ id := s.nextReq, word := word, point := .received, reply := none }] }) ∧
      (∀ k, s.elapse till [⟨after, .signal k⟩] = { s0.emit (.signal k) with
        now := till, sigCancel := true, pcSig := .signalled }) ∧
      (∀ k r rest, s.cur ≠ .ctrl k → s.replies = (.ctrl k, r) :: rest →
        s.elapse till [⟨after, .serve k⟩] = { { s0 with replies := rest }.replyTo (.ctrl k) r with now := till }) ∧
      ∀ q ∈ s.reqs, q.point = .received → s.requestInv → s.cur ≠ .ctrl q.id → s.replies.lookup (.ctrl q.id) = none →
        (decodeRequest q.word = none → s.elapse till [⟨after, .serve q.id⟩] =
          { (s0.markRunning q.id).post (.ctrl q.id) (.error (.badRequest (.request q.word))) with now := till }) ∧
        ∀ i, decodeRequest q.word = some i → ∃ t, exec i { s0.markRunning q.id with cur := .ctrl q.id } = .next t ∧
          s.elapse till [⟨after, .serve q.id⟩] = { t with now := till, cur := s.cur, result := s.result }

/-! Transport. -/

/-- RDREG, RDU8, RDU32 and RDWORD return what the companion answers, big-endian, and change nothing else
(40_transport R200, R206, R210, R211). That RDREG of length 0 runs is the model's choice (log 30). -/
def Obligations.RawReadsComplete : Prop :=
  ∀ (s : State) (d : BusDraw) (r : Byte),
    (∀ n bs, s.reads d r n bs → exec (.rdreg r n) s = .next ((s.didRead d r n).gives (.bytes bs))) ∧
    (∀ b, s.reads d r 1 [b] → exec (.rdu8 r) s = .next ((s.didRead d r 1).gives (.num b.toNat))) ∧
    (∀ a b c e, s.reads d r 4 [a, b, c, e] →
      exec (.rdu32 r) s = .next ((s.didRead d r 4).gives
        (.num (a.toNat * 2 ^ 24 + b.toNat * 2 ^ 16 + c.toNat * 2 ^ 8 + e.toNat)))) ∧
    (∀ a b, s.reads d r 2 [a, b] →
      exec (.rdword r) s = .next ((s.didRead d r 2).gives (.num (a.toNat * 256 + b.toNat))))

/-- In dialect 2 RDU16 and every named two-byte read are one transaction of 2 bytes, decoded data[0] · 256 + data[1]
(40_transport R207, R208, 30_encoding R110). -/
def Obligations.WordReadsDialect2 : Prop :=
  ∀ (s : State) (d : BusDraw) (a b : Byte), s.dialect = some .two →
    (∀ r, s.reads d r 2 [a, b] →
      exec (.rdu16 r) s = .next ((s.didRead d r 2).gives (.num (a.toNat * 256 + b.toNat)))) ∧
    ∀ c ∈ wordReads, s.reads d c.2 2 [a, b] →
      exec c.1 s = .next ((s.didRead d c.2 2).gives (.num (a.toNat * 256 + b.toNat)))

/-- In dialect 1 they take the OPEN parameter (40_transport R209, log 20): unfixed, after a drawn trace a drawn value, or the
transport error of a drawn failure, never a fatal one inside `Retry` (R204); fixed, the first byte obtained is the high byte and
the decoding gives the low one, or its transaction's error is raised. -/
def Obligations.WordReadsDialect1 : Prop :=
  ∀ (s : State) (r : Byte) (i : Instr), s.dialect = some .one → (i = .rdu16 r ∨ (i, r) ∈ wordReads) →
    (s.par.dialect1 = .unfixed → s.busOpen = true → s.holder = some s.cur →
      ∀ d ds s1, s.inp.dialect1 = d :: ds → { s with inp := { s.inp with dialect1 := ds } }.lasts d.traffic →
        s1 = { s with inp := { s.inp with dialect1 := ds } }.didTrace d.traffic →
        d.susp.cut = false → s1.comp.wdog.expired (s1.now + d.susp.dur) = false →
        ∃ u, u = (s1.elapse (s1.now + d.susp.dur) d.susp.acts).emit (.dialect1 r d.resp) ∧
          (∀ v, d.resp = .value v →
            exec i s = .next ({ u with comp := { u.comp with wdog := u.comp.wdog.touch u.par.wdAnyTraffic u.now } }.gives
              (.num v.toNat))) ∧
          ∀ f, d.resp = .fail f →
            (failureFatal f = true → exec i s = .next (u.fails (.transport (.single f)))) ∧
            (failureFatal f = false → exec i s = .next (u.fails (.transport (.retry f))))) ∧
    ∀ rows c, s.par.dialect1 = .table rows → rows.lookup r = some c →
      (∀ t responses hi rest, runDialect1 c.txns s = .ok responses t → responses.flatten = hi :: rest →
        (∀ k lo, c.low = .byteAt k → (hi :: rest)[k]? = some lo →
          exec i s = .next (t.gives (.num (hi.toNat * 256 + lo.toNat)))) ∧
        (c.low = .decoded →
          exec i s = .next (t.gives (.num (hi.toNat * 256 + (Config.dialect1Low r responses).toNat))))) ∧
      ∀ t e, runDialect1 c.txns s = .error (.raise e) t → exec i s = .next (t.fails e)

/-- WRREG, WRU8, WRU16 and WRU32 write their bytes, big-endian, and change nothing else; a typed writer's value beyond its
width is a fault of the model (40_transport R201, R212 to R215). That WRREG of no bytes runs is the model's choice (log 30). -/
def Obligations.RawWritesComplete : Prop :=
  ∀ (s : State) (d : BusDraw) (r : Byte),
    (∀ data, s.writes d r data → exec (.wrreg r data) s = .next ((s.didWrite d r data).gives .unit)) ∧
    (∀ a : Byte, s.writes d r [a] → exec (.wru8 r a.toNat) s = .next ((s.didWrite d r [a]).gives .unit)) ∧
    (∀ a b : Byte, s.writes d r [a, b] →
      exec (.wru16 r (a.toNat * 256 + b.toNat)) s = .next ((s.didWrite d r [a, b]).gives .unit)) ∧
    (∀ a b c e : Byte, s.writes d r [a, b, c, e] →
      exec (.wru32 r (a.toNat * 2 ^ 24 + b.toNat * 2 ^ 16 + c.toNat * 2 ^ 8 + e.toNat)) s =
        .next ((s.didWrite d r [a, b, c, e]).gives .unit)) ∧
    (∀ v, 2 ^ 8 ≤ v → exec (.wru8 r v) s = .fault .valueTooWide) ∧
    (∀ v, 2 ^ 16 ≤ v → exec (.wru16 r v) s = .fault .valueTooWide) ∧
    ∀ v, 2 ^ 32 ≤ v → exec (.wru32 r v) s = .fault .valueTooWide

/-- The retry policy, followed attempt by attempt (40_transport R203, R217): after at most three transient failures, each with
its backoff sleep of at least 10 ms, the next attempt's success is the value, its fatal failure is raised, and a fourth
transient failure is raised as `Retry`. -/
def Obligations.RetryFollows : Prop :=
  ∀ (s : State) (r : Byte) (l : List (BusDraw × Susp)), l.length ≤ 3 →
    (∀ n, s.retriesReads r n l →
      (∀ d bs, (s.retriedReads r n l).reads d r n bs →
        exec (.rdreg r n) s = .next (((s.retriedReads r n l).didRead d r n).gives (.bytes bs))) ∧
      ∀ d f, (s.retriedReads r n l).awaits d → ((s.retriedReads r n l).readAnswer d r n).1 = .error f →
        (failureFatal f = true →
          exec (.rdreg r n) s = .next (((s.retriedReads r n l).didRead d r n).fails (.transport (.single f)))) ∧
        (failureFatal f = false → l.length = 3 →
          exec (.rdreg r n) s = .next (((s.retriedReads r n l).didRead d r n).fails (.transport (.retry f))))) ∧
    ∀ data, s.retriesWrites r data l →
      (∀ d, (s.retriedWrites r data l).writes d r data →
        exec (.wrreg r data) s = .next (((s.retriedWrites r data l).didWrite d r data).gives .unit)) ∧
      ∀ d f, (s.retriedWrites r data l).awaits d → ((s.retriedWrites r data l).writeAnswer d r data).1 = .error f →
        (failureFatal f = true →
          exec (.wrreg r data) s = .next (((s.retriedWrites r data l).didWrite d r data).fails (.transport (.single f)))) ∧
        (failureFatal f = false → l.length = 3 →
          exec (.wrreg r data) s = .next (((s.retriedWrites r data l).didWrite d r data).fails (.transport (.retry f))))

/-- Whatever the companion answers, a transaction is attempted at most 4 times, with at least 10 ms between the ends of
successive attempts, under one hold (40_transport R203, 10_state R32). -/
def Obligations.AttemptBound : Prop :=
  ∀ (s t : State) (r : Byte),
    ((∃ n, exec (.rdreg r n) s = .next t) ∨ ∃ data, exec (.wrreg r data) s = .next t) →
    ∃ es, t.trace = s.trace ++ es ∧
      (es.filter fun e => e.2.isAttempt).length ≤ 4 ∧
      ((es.filter fun e => e.2.isAttempt).map Prod.fst).Pairwise (fun a b => a + 10 ≤ b) ∧
      (∀ e ∈ es, ∀ a, e.2 ≠ .lock a ∧ e.2 ≠ .unlock a) ∧
      (t.wasCut ∨ t.holder = s.holder)

/-- `Retry` carries the failure of the fourth attempt, is transient to every caller, and never wraps a fatal failure
(40_transport R204). -/
def Obligations.RetryCarriesLast : Prop :=
  (∀ f, transportFatal (.retry f) = false) ∧
  ∀ (s t : State) (r : Byte) (f : Failure),
    (∀ n, exec (.rdreg r n) s = .next t → t.result = some (.error (.transport (.retry f))) →
      failureFatal f = false ∧ ((s.newEvents t).filter Event.isAttempt).length = 4 ∧
        ((s.newEvents t).filter Event.isAttempt).getLast? = some (.read r n (.error f))) ∧
    ∀ data, exec (.wrreg r data) s = .next t → t.result = some (.error (.transport (.retry f))) →
      failureFatal f = false ∧ ((s.newEvents t).filter Event.isAttempt).length = 4 ∧
        ((s.newEvents t).filter Event.isAttempt).getLast? = some (.write r data (.error f))

/-! Named registers. -/

/-- The identity registers and the power state, split byte by byte; alpha 255 is a release; every power-state byte has its
state (41_register_ops R250 to R252, 10_state R28). That the row RD_PSTATE gives the decoded state, and not the raw byte of R257,
is the model's reading (DEDUCED, log 29). -/
def Obligations.IdentityReads : Prop :=
  ∀ (s : State) (d : BusDraw),
    (∀ a b c, s.reads d 0x03 3 [a, b, c] →
      exec .rdHwver s = .next ((s.didRead d 0x03 3).gives (.hwVersion ⟨a, b, c⟩))) ∧
    (∀ a b c e, s.reads d 0x04 4 [a, b, c, e] →
      exec .rdFwver s = .next ((s.didRead d 0x04 4).gives (.fwVersion ⟨a, b, c, e, decide (e = 255)⟩))) ∧
    (∀ bs, s.reads d 0x05 8 bs → exec .rdDevid s = .next ((s.didRead d 0x05 8).gives (.bytes bs))) ∧
    ∀ b, s.reads d 0x25 1 [b] → ∃ p, exec .rdPstate s = .next ((s.didRead d 0x25 1).gives (.power p)) ∧
      (b = 0 → p = .off) ∧ (b = 1 → p = .poweringOn) ∧ (b = 2 → p = .operational) ∧ (b = 3 → p = .operationalCoOp) ∧
      (4 ≤ b.toNat → b.toNat ≤ 12 → p = .unnamed b) ∧ (b = 13 → p = .standby) ∧ (14 ≤ b.toNat → p = .unknown b)

/-- READ_MEASUREMENTS in dialect 2: six reads in order, each from the state the one before left, give the snapshot
(41_register_ops R255). -/
def Obligations.SnapshotCompletes : Prop :=
  ∀ (s s1 s2 s3 s4 s5 s6 : State) (d0 d1 d2 d3 d4 d5 : BusDraw) (a0 b0 a1 b1 a2 b2 a3 b3 a4 b4 p : Byte),
    s.dialect = some .two →
    s.reads d0 0x20 2 [a0, b0] → s1 = s.didRead d0 0x20 2 →
    s1.reads d1 0x21 2 [a1, b1] → s2 = s1.didRead d1 0x21 2 →
    s2.reads d2 0x22 2 [a2, b2] → s3 = s2.didRead d2 0x22 2 →
    s3.reads d3 0x23 2 [a3, b3] → s4 = s3.didRead d3 0x23 2 →
    s4.reads d4 0x24 2 [a4, b4] → s5 = s4.didRead d4 0x24 2 →
    s5.reads d5 0x25 1 [p] → s6 = s5.didRead d5 0x25 1 →
    exec .readMeasurements s = .next (s6.gives (.snapshot
      { vin := a0 ++ b0, vscap := a1 ++ b1, iin := a2 ++ b2, tmcu := a3 ++ b3, tpcb := a4 ++ b4, pstate := decodePs p }))

/-- Whatever the companion answers, the successful reads of READ_MEASUREMENTS in dialect 2 are the first registers of 0x20 to
0x25 in order, all six exactly when there is a snapshot, and no later register is attempted
(41_register_ops R255, R256, 20_memory R83). -/
def Obligations.SnapshotOrder : Prop :=
  ∀ s t : State, s.dialect = some .two → exec .readMeasurements s = .next t →
    ∃ k, k ≤ 6 ∧
      (s.newEvents t).filterMap Event.readReg = ([0x20, 0x21, 0x22, 0x23, 0x24, 0x25] : List Byte).take k ∧
      (k = 6 ↔ ∃ m, t.result = some (.value (.snapshot m))) ∧
      ∀ e ∈ s.newEvents t, e.isAttempt = true →
        ∃ r n res, e = .read r n res ∧ r ∈ ([0x20, 0x21, 0x22, 0x23, 0x24, 0x25] : List Byte).take (k + 1)

/-- GET_USB and the four USB reads: 0 is off, 1 is on, any other byte is a BadValue (41_register_ops R261). That the rows
RD_USB0 to RD_USB3 give GET_USB's Boolean or BadValue is the model's reading (DEDUCED, log 29). -/
def Obligations.UsbReads : Prop :=
  ∀ c ∈ usbReads, ∀ i ∈ [c.1, Instr.getUsb c.2], ∀ (s : State) (d : BusDraw) (r b : Byte), r = BitVec.ofNat 8 (0x26 + c.2) →
    s.reads d r 1 [b] →
    (b = 0 → exec i s = .next ((s.didRead d r 1).gives (.bool false))) ∧
    (b = 1 → exec i s = .next ((s.didRead d r 1).gives (.bool true))) ∧
    (2 ≤ b.toNat → exec i s = .next ((s.didRead d r 1).fails (.badValue r b)))

/-- A port other than 0 to 3 is not found, before any transaction (41_register_ops R265). -/
def Obligations.PortsOutOfRange : Prop :=
  ∀ (s : State) (p : Int) (on : Bool), ¬(p = 0 ∨ p = 1 ∨ p = 2 ∨ p = 3) →
    exec (.getUsb p) s = .next (s.fails (.notFound (.port p))) ∧
    exec (.setUsb p on) s = .next (s.fails (.notFound (.port p))) ∧
    exec (.cGetUsb p) s = .next (s.answered (.error (.notFound (.port p)))) ∧
    exec (.cSetUsb p on) s = .next (s.answered (.error (.notFound (.port p))))

/-- Every named write puts its data on the bus and changes nothing else (30_encoding R110, 41_register_ops R254,
R258 to R260, R262 to R264, 43_dfu_framer R364, R365). -/
def Obligations.NamedWrites : Prop :=
  ∀ (s : State) (d : BusDraw),
    (∀ c ∈ fixedWrites, s.writes d c.2.1 c.2.2 → exec c.1 s = .next ((s.didWrite d c.2.1 c.2.2).gives .unit)) ∧
    (∀ a b : Byte, s.writes d 0x11 [a, b] →
      exec (.wrPon (a.toNat * 256 + b.toNat)) s = .next ((s.didWrite d 0x11 [a, b]).gives .unit)) ∧
    (∀ (p : Nat) (on : Bool) (r : Byte), p ≤ 3 → r = BitVec.ofNat 8 (0x26 + p) → s.writes d r [if on then 1 else 0] →
      exec (.setUsb p on) s = .next ((s.didWrite d r [if on then 1 else 0]).gives .unit)) ∧
    ∀ a b c e : Byte, s.writes d 0x31 [s.par.standbyMode, a, b, c, e] →
      ∀ i ∈ [Instr.wrStandby (a.toNat * 2 ^ 24 + b.toNat * 2 ^ 16 + c.toNat * 2 ^ 8 + e.toNat),
          .requestStandby (a.toNat * 2 ^ 24 + b.toNat * 2 ^ 16 + c.toNat * 2 ^ 8 + e.toNat)],
        exec i s = .next ((s.didWrite d 0x31 [s.par.standbyMode, a, b, c, e]).gives .unit)

/-- The companion's watchdog (60_exceptions R632, R639): an arm or a feed that succeeds sets the deadline 10 s ahead, a
disable removes it, other traffic, reads and writes alike, restarts it where the parameter says so and else leaves it, and a
passed deadline cuts host power (log 14) in the first millisecond after it (log 46), as a drawn cut does at its drawn time, in an
attempt, in a sleep and in an idle wait, with what landed before it done and a write attempt in flight lost (log 13). The time of an
attempt is its end (log 40). -/
def Obligations.WatchdogDeadline : Prop :=
  ∀ s t : State,
    (∀ i ∈ [Instr.wdArm, .wdFeed], exec i s = .next t → t.result = some (.value .unit) →
      t.comp.wdog = .armed 1000 (t.now + 10000)) ∧
    (exec .wdDisable s = .next t → t.result = some (.value .unit) → t.comp.wdog = .disabled) ∧
    (∀ (r : Byte) (n timeout deadline : Nat), s.comp.wdog = .armed timeout deadline →
      (exec (.rdreg r n) s = .next t → (∃ bs, t.result = some (.value (.bytes bs))) →
        t.comp.wdog = .armed timeout (if s.par.wdAnyTraffic then t.now + 10 * timeout else deadline)) ∧
      ∀ data, r ≠ 0x10 → exec (.wrreg r data) s = .next t → t.result = some (.value .unit) →
        t.comp.wdog = .armed timeout (if s.par.wdAnyTraffic then t.now + 10 * timeout else deadline)) ∧
    (∀ r n d ds cut u, s.busOpen = true → s.holder = some s.cur → s.inp.bus = d :: ds → s.cutIn d.susp d.susp.dur cut →
      u = { s with inp := { s.inp with bus := ds } }.elapse cut d.susp.acts →
      exec (.rdreg r n) s = .next u.powerCut ∧
      ∀ data, exec (.wrreg r data) s = .next (u.lostWrite r data).powerCut) ∧
    (∀ x ∈ [(Instr.dfuCommitSeq, DfuPoint.commit), (.dfuAbortSeq, .abort)], ∀ p ps cut, s.inp.sleep = p :: ps →
      s.cutIn p (100 + p.dur) cut →
      exec x.1 s = .next ({ (s.dfuAt s.cur x.2).emit (.sleep 100) with
        inp := { s.inp with sleep := ps } }.elapse cut p.acts).powerCut) ∧
    ∀ w p ps ms cut, s.up = true → s.opPort = [] → s.pcSup = .sleeping → s.sigCancel = false → s.supWake = some w →
      s.now < w → s.reqs.filter Request.arrived = [] → s.waiters = [] → s.replies = [] → s.inp.idle = p :: ps →
      ms = (match p.acts with | [] => w - s.now | a :: _ => min a.after (w - s.now)) → s.cutIn p ms cut →
      step s = .next ({ s with inp := { s.inp with idle := ps } }.elapse cut (p.acts.take 1)).powerCut

/-- A USB rail that was set reads back as set (45_control R465, 60_exceptions R631), through the control requests and through
the named operations, whatever attempts either took. A reference companion holds four USB values. -/
def Obligations.UsbRoundTrip : Prop :=
  ∀ (s t u : State) (p : Nat) (on : Bool), p ≤ 3 → (∀ c, s.comp.ref = some c → c.usb.length = 4) →
    (exec (.cSetUsb p on) s = .next t → (s.newEvents t).filterMap (Event.writtenTo (BitVec.ofNat 8 (0x26 + p))) ≠ [] →
      exec (.cGetUsb p) t = .next u → (t.newEvents u).filterMap Event.readReg ≠ [] → ¬u.wasCut →
      u.result = some (.reply (.value (.bool on)))) ∧
    (exec (.setUsb p on) s = .next t → (s.newEvents t).filterMap (Event.writtenTo (BitVec.ofNat 8 (0x26 + p))) ≠ [] →
      exec (.getUsb p) t = .next u → (t.newEvents u).filterMap Event.readReg ≠ [] → ¬u.wasCut →
      u.result = some (.value (.bool on)))

/-- What the read operations leave alone: every register of the block but what lands while they wait, and every known byte of
the companion (41_register_ops "Status written: none", 10_state R20). That an unfixed dialect-1 read leaves every known byte is the
model's choice (log 20). RD_DFU_STATUS, which a session remembers, is in DfuRegisters. -/
def Obligations.ReadsFrame : Prop :=
  ∀ (i : Instr) (s t : State), isPureRead i = true → s.dialect = some .two ∨ s.par.dialect1 = .unfixed →
    exec i s = .next t →
    t.wasCut ∨ (s.sameBlock t ∧ ∀ a, t.comp.mem.byteAt a = s.comp.mem.byteAt a)

/-- What the write operations leave alone: every register of the block but what lands while they wait, and every known byte of
the companion but the register written, itself unknown to the block unless it is a USB register (40_transport R201). -/
def Obligations.WritesFrame : Prop :=
  ∀ (i : Instr) (r : Byte) (s t : State), writeTarget i = some r → exec i s = .next t →
    t.wasCut ∨ (s.sameBlock t ∧
      ∀ a, a ≠ r.toNat ∨ ¬(0x26 ≤ a ∧ a ≤ 0x29) → t.comp.mem.byteAt a = s.comp.mem.byteAt a)

/-- The lock (10_state R30 to R32): a transaction by an agent that does not hold it is a fault of the model, an operation whose
lock another agent holds waits at its Lock() with what it did before it done (log 1), an upload's engine at Validate (log 42),
and the lock is not re-entrant. That a tick reads its limits before it waits is log 12 (DEDUCED from 45_control R461). -/
def Obligations.LockRules : Prop :=
  (∀ (i : Instr) (s : State),
    i.wf = true ∨ (∃ r n, i = .rdreg r n) ∨ (∃ r data, i = .wrreg r data) →
    (isPureRead i = true ∨ writeTarget i ≠ none ∨ i = .rdDfuStatus) →
    (∀ p, i = .getUsb p → portLegal p = true) → (∀ p on, i = .setUsb p on → portLegal p = true) →
    s.dialect = some .two → s.busOpen = true → s.holder ≠ some s.cur → exec i s = .fault .transactionByNonHolder) ∧
  ∀ (s : State) (p : Nat) (on : Bool), p ≤ 3 →
    (∀ i ∈ [Instr.cSnapshot, .cShutdown, .cGetUsb p, .cSetUsb p on], s.holder = some s.cur →
      exec i s = .fault .reentrantLock) ∧
    ∀ a, s.holder = some a → a ≠ s.cur →
      exec .cSnapshot s = .next (s.park s.cur .snapshot) ∧
      exec .cShutdown s = .next (s.park s.cur .shutdown) ∧
      exec (.cGetUsb p) s = .next (s.park s.cur (.getUsb p)) ∧
      exec (.cSetUsb p on) s = .next (s.park s.cur (.setUsb p on)) ∧
      (∀ d : Int, 0 ≤ d → exec (.cStandby (.delay d)) s = .next (s.park s.cur (.standby (min d.toNat (2 ^ 32 - 1))))) ∧
      (∀ (wake wall : Rat) (walls : List Rat), s.inp.wall = wall :: walls →
        exec (.cStandby (.datetime wake)) s = .next ({ s with inp := { s.inp with wall := walls } }.park s.cur
          (.standby (min (wake - wall).floor.toNat (2 ^ 32 - 1))))) ∧
      (∀ image : List Byte, 1 ≤ image.length → image.length ≤ 268431360 →
        exec (.dfuUpload image) s = .next ((s.dfuAt s.cur .validate).park s.cur (.upload image)) ∧
        exec (.cUpload image) s = .next ((s.dfuAt s.cur .validate).park s.cur (.uploadRequest image))) ∧
      (∀ code : Fin 2, exec (.exitSeq code) s =
        .next ({ s with pcSup := .exiting }.park s.cur (.exit (code.castLE (by decide))))) ∧
      (s.sigCancel = false → s.fsm ≠ .dead →
        exec .tick s = .next ({ s with supWake := none, pcSup := .waitLock }.park s.cur (.tick s.cfg.vlim s.cfg.tlim)))

/-! The power state machine. -/

/-- State Ok without an intent (42_power_fsm R311, R312): an input voltage strictly below the limit enters Blackout with the
tick's time, any other sample and a failed one change nothing. -/
def Obligations.FsmOk : Prop :=
  ∀ (s : State) (now : Nat), s.fsm = .ok → s.intent = false →
    (∀ m : Snapshot, (m.vin.toNat : Rat) * s.par.fsVin / 65536 < s.cfg.vlim →
      exec (.fsmStep (.ok m) now) s = .next ({ s with t0 := some now, fsm := .blackout }.gives .unit)) ∧
    (∀ m : Snapshot, s.cfg.vlim ≤ (m.vin.toNat : Rat) * s.par.fsVin / 65536 →
      exec (.fsmStep (.ok m) now) s = .next (s.gives .unit)) ∧
    ∀ e, exec (.fsmStep (.err e) now) s = .next (s.gives .unit)

/-- State Blackout without an intent (42_power_fsm R313, R318): a recovered sample returns to Ok and clears the start time,
whatever time has passed; before the limit, and on a failed sample, nothing changes. -/
def Obligations.FsmBlackout : Prop :=
  ∀ (s : State) (now start : Nat), s.fsm = .blackout → s.intent = false → s.t0 = some start →
    (∀ m : Snapshot, s.cfg.vlim ≤ (m.vin.toNat : Rat) * s.par.fsVin / 65536 →
      exec (.fsmStep (.ok m) now) s = .next ({ s with fsm := .ok, t0 := none }.gives .unit)) ∧
    (∀ m : Snapshot, (m.vin.toNat : Rat) * s.par.fsVin / 65536 < s.cfg.vlim →
      ((now - start : Nat) : Rat) < 1000 * s.cfg.tlim → exec (.fsmStep (.ok m) now) s = .next (s.gives .unit)) ∧
    ∀ e, exec (.fsmStep (.err e) now) s = .next (s.gives .unit)

/-- The blackout limit has passed (42_power_fsm R314, R320, R321): Shutdown, the final feed, whatever its outcome the request
write to 0x30, the launch, in this order and in this step; a feed that failed leaves the last feed's time. That a launch that
succeeds leaves an error recorded before is the model's choice (log 49). -/
def Obligations.FsmShutdownEntry : Prop :=
  ∀ (s s1 s2 : State) (now start : Nat) (m : Snapshot) (d1 d2 : BusDraw),
    s.fsm = .blackout → s.intent = false → s.t0 = some start → s.step1Done = false →
    (m.vin.toNat : Rat) * s.par.fsVin / 65536 < s.cfg.vlim → 1000 * s.cfg.tlim ≤ ((now - start : Nat) : Rat) →
    ({ s with fsm := .shutdown }.writes d1 0x10 [0x03, 0xE8] ∧
        s1 = { { s with fsm := .shutdown }.didWrite d1 0x10 [0x03, 0xE8] with lastFed := some now }) ∨
      (∃ e, exec .wdFeed { s with fsm := .shutdown } = .next (s1.fails (.transport e)) ∧ s1.result = s.result) →
    s1.writes d2 0x30 [0x01] → s2 = { s1.didWrite d2 0x30 [0x01] with step1Done := true } → s2.launchSettled →
    exec (.fsmStep (.ok m) now) s = .next (s2.launched.gives .unit)

/-- A shutdown intent is acted on first in Start, Ok and Blackout, whatever the sample (42_power_fsm R315): it is cleared, the
final feed and, whatever its outcome, the launch follow, and 0x30 is not written. That a launch that succeeds leaves an error recorded
before is the model's choice (log 49). -/
def Obligations.FsmIntent : Prop :=
  ∀ (s s0 s1 : State) (r : Sample) (now : Nat) (d : BusDraw),
    s.fsm = .start ∨ s.fsm = .ok ∨ s.fsm = .blackout → s.intent = true →
    s0 = { s with intent := false, step1Done := true, t0 := none, fsm := .shutdown } →
    (s0.writes d 0x10 [0x03, 0xE8] ∧ s1 = { s0.didWrite d 0x10 [0x03, 0xE8] with lastFed := some now }) ∨
      (∃ e, exec .wdFeed s0 = .next (s1.fails (.transport e)) ∧ s1.result = s.result) →
    s1.launchSettled → exec (.fsmStep r now) s = .next (s1.launched.gives .unit)

/-- Dead has no transitions, Shutdown clears an intent and repeats the launch only (42_power_fsm R315, R316, R321, R323); the
shutdown sequence writes 0x30 once and goes on whatever the failure of that write (R322, R324, R325). That a launch that succeeds
leaves an error recorded before is the model's choice (log 49). -/
def Obligations.ShutdownSteps : Prop :=
  ∀ s : State,
    (∀ r now, s.fsm = .dead → exec (.fsmStep r now) s = .next (s.gives .unit)) ∧
    (∀ r now, s.fsm = .shutdown → s.step1Done = true → s.launchSettled →
      exec (.fsmStep r now) s = .next ({ s with intent := false }.launched.gives .unit)) ∧
    (s.step1Done = true → s.launchSettled → exec .shutdownSeq s = .next (s.launched.gives .unit)) ∧
    ∀ (d : BusDraw) (u v : State), s.step1Done = false →
      (s.writes d 0x30 [0x01] ∧ v = s.didWrite d 0x30 [0x01]) ∨
        (∃ e, exec .wrShutdown s = .next (v.fails (.transport e)) ∧ v.result = s.result) →
      u = { v with step1Done := true } → u.launchSettled →
      exec .shutdownSeq s = .next (u.launched.gives .unit)

/-- Whatever fails, the shutdown sequence ends without an error (42_power_fsm R321 to R325): Dead, or the launch failed and the
state stays; a 0x30 write comes before the launch, of which there is at most one (70_reset R715). -/
def Obligations.ShutdownOutcome : Prop :=
  ∀ s t : State, exec .shutdownSeq s = .next t →
    t.wasCut ∨
      (t.step1Done = true ∧ t.result = some (.value .unit) ∧
        (t.fsm = .dead ∨ (t.fsm = s.fsm ∧ t.supErr = some .poweroffLaunchFailed)) ∧
        (s.step1Done = false → ∃ e ∈ s.newEvents t, e.isWriteTo 0x30 = true) ∧
        ∀ a b c ok, s.newEvents t = a ++ .poweroff c ok :: b →
          c ≠ [] ∧ (∀ e ∈ b, e.isAttempt = false) ∧ ∀ e ∈ a ++ b, ∀ c' ok', e ≠ .poweroff c' ok')

/-- After the shutdown request was issued no operation of the supervisor writes 0x30 again, and after Dead none launches
(42_power_fsm R324, R342), a tick that goes on from Lock() among them. A fixed dialect-1 sequence is left out: its writes are the
parameter's. With the parameter unfixed, that no write to 0x30 is attempted rests on the model's choice that an unfixed read shows
no bus trace (log 20). -/
def Obligations.ShutdownOnce : Prop :=
  ∀ (s t : State) (i : Instr) (r : Sample) (now : Nat), i = .tick ∨ i = .fsmStep r now ∨ i = .shutdownSeq →
    s.dialect = some .two ∨ s.par.dialect1 = .unfixed → s.step1Done = true →
    exec i s = .next t ∨ (i = .tick ∧ ∃ v l, finish (resume (.tick v l)) s = .next t) →
    (∀ e ∈ s.newEvents t, e.isWriteTo 0x30 = false) ∧
    (t.wasCut ∨ t.step1Done = true) ∧
    (i = .tick → s.fsm = .dead → (∀ e ∈ s.newEvents t, e.isLaunch = false) ∧ (t.wasCut ∨ t.fsm = .dead))

/-- State Dead (42_power_fsm R316): its tick returns at once with no lock and no transaction; a signal still leads to the exit
sequence, as in every state (R301, R331). -/
def Obligations.TickDead : Prop :=
  ∀ s : State,
    (s.fsm = .dead → s.sigCancel = false →
      exec .tick s = .next ({ s with supWake := none, pcSup := .sleeping }.gives .unit)) ∧
    (s.sigCancel = true → exec .tick s = exec (.exitSeq 0) { s with supWake := none }) ∧
    ∀ r now, s.fsm = .dead → exec (.fsmStep r now) s = .next (s.gives .unit)

/-- State Start (42_power_fsm R310, R333, 60_exceptions R611): the tick's only transaction is the arm; success enters Ok with the
tick's time, a failure that is not fatal leaves Start for the next tick to arm again, a fatal one leads to the exit sequence. -/
def Obligations.TickStart : Prop :=
  ∀ (s s0 : State) (d : BusDraw), s.fsm = .start → s.intent = false → s.sigCancel = false →
    s0 = { s with supWake := none, pcSup := .waitLock } → s0.canLock →
    (s0.takeLock.writes d 0x10 [0x03, 0xE8] →
      exec .tick s = .next ({ { s0.takeLock.didWrite d 0x10 [0x03, 0xE8] with
        lastFed := some s.now, fsm := .ok }.dropLock with pcSup := .sleeping }.gives .unit)) ∧
    (∀ (e : TransportError) (u : State), exec .wdArm s0.takeLock = .next (u.fails (.transport e)) → u.result = s.result →
      (transportFatal e = false → exec .tick s = .next ({ u.dropLock with pcSup := .sleeping }.gives .unit)) ∧
      (transportFatal e = true → exec .tick s = exec (.exitSeq 1) u.dropLock)) ∧
    ∀ f, s0.takeLock.awaits d → (s0.takeLock.writeAnswer d 0x10 [0x03, 0xE8]).1 = .error f → failureFatal f = true →
      exec .tick s = exec (.exitSeq 1) (s0.takeLock.didWrite d 0x10 [0x03, 0xE8]).dropLock

/-- A tick that samples, in Ok, Blackout and Shutdown and in Start with an intent (42_power_fsm R301 to R305, R315): the lock, the
sample or its failure (one that is not fatal, or any in Shutdown: R322), the feed if five seconds have passed since the last (none
in Start, log 9), its failure passed over, the state step on this sample with the tick's time and the limits it read, the
release. A tick that has passed its tests is the tick from Lock() on, and one that goes on from Lock() does so whatever signal or
limits came while it waited (45_control R461, 60_exceptions R605). -/
def Obligations.TickSamples : Prop :=
  ∀ (s s0 s1 s2 u : State) (d : BusDraw) (r : Sample) (vlim tlim : Rat), s0.canLock →
    s0.fsm = .ok ∨ s0.fsm = .blackout ∨ s0.fsm = .shutdown ∨ (s0.fsm = .start ∧ s0.intent = true) →
    (∃ (m : Snapshot) (v : State), r = .ok m ∧
        exec .readMeasurements { s0.takeLock with pcSup := .sample } = .next (v.gives (.snapshot m)) ∧
        v.result = s0.result ∧ s1 = { v with measLast := some m }) ∨
      (∃ e, r = .err e ∧ (transportFatal e = false ∨ s0.fsm = .shutdown) ∧
        exec .readMeasurements { s0.takeLock with pcSup := .sample } = .next (s1.fails (.transport e)) ∧
        s1.result = s0.result) →
    ((s0.fsm = .start ∨ ∃ fed, s0.lastFed = some fed ∧ s0.now - fed < 5000) ∧ s2 = { s1 with pcSup := .step }) ∨
      (s0.fsm ≠ .start ∧ (∀ fed, s0.lastFed = some fed → 5000 ≤ s0.now - fed) ∧
        (({ s1 with pcSup := .feed }.writes d 0x10 [0x03, 0xE8] ∧
            s2 = { { s1 with pcSup := .feed }.didWrite d 0x10 [0x03, 0xE8] with
              lastFed := some s0.now, pcSup := .step }) ∨
          ∃ (e : TransportError) (v : State), (transportFatal e = false ∨ s0.fsm = .shutdown) ∧
            exec .wdFeed { s1 with pcSup := .feed } = .next (v.fails (.transport e)) ∧ v.result = s0.result ∧
            s2 = { v with pcSup := .step })) →
    finish (doing (fsmStepAt vlim tlim r s0.now)) s2 = .next (u.gives .unit) →
    finish (resume (.tick vlim tlim)) s0 = .next ({ u.dropLock with pcSup := .sleeping }.gives .unit) ∧
    (s.sigCancel = false → s.fsm ≠ .dead → s0 = { s with supWake := none, pcSup := .waitLock } →
      vlim = s.cfg.vlim → tlim = s.cfg.tlim →
      exec .tick s = .next ({ u.dropLock with pcSup := .sleeping }.gives .unit))

/-- A fatal transport error anywhere in a tick that samples, in Ok and Blackout and in Start with an intent (42_power_fsm R301, R304,
R333, 60_exceptions R611): of the sample, in whichever of its reads and attempts, or of the feed after a sample that did not end
the tick; the lock is released and the exit sequence with code 1 runs, for a tick that finds the lock free and for one that goes on
from Lock(). The arm of a tick in Start is TickStart's; in Shutdown a fatal error is passed over (R322, TickSamples). -/
def Obligations.TickFatal : Prop :=
  ∀ (s s0 a u : State) (e : TransportError) (vlim tlim : Rat), s0.canLock → a = { s0.takeLock with pcSup := .sample } →
    transportFatal e = true →
    ((s0.fsm = .ok ∨ s0.fsm = .blackout ∨ (s0.fsm = .start ∧ s0.intent = true)) ∧
        exec .readMeasurements a = .next (u.fails (.transport e)) ∧ u.result = s0.result) ∨
      ((s0.fsm = .ok ∨ s0.fsm = .blackout) ∧ (∀ fed, s0.lastFed = some fed → 5000 ≤ s0.now - fed) ∧
        ∃ s1 : State,
          ((∃ (m : Snapshot) (v : State), exec .readMeasurements a = .next (v.gives (.snapshot m)) ∧
              v.result = s0.result ∧ s1 = { v with measLast := some m }) ∨
            (∃ e', transportFatal e' = false ∧ exec .readMeasurements a = .next (s1.fails (.transport e')) ∧
              s1.result = s0.result)) ∧
          exec .wdFeed { s1 with pcSup := .feed } = .next (u.fails (.transport e)) ∧ u.result = s0.result) →
    finish (resume (.tick vlim tlim)) s0 = exec (.exitSeq 1) u.dropLock ∧
    (s.sigCancel = false → s.fsm ≠ .dead → s0 = { s with supWake := none, pcSup := .waitLock } →
      exec .tick s = exec (.exitSeq 1) u.dropLock)

/-- Every timestamp a tick writes is the clock when it took the lock, however long its transactions took, for a tick that finds
the lock free and for one that waited (42_power_fsm R302). -/
def Obligations.TickTimes : Prop :=
  ∀ s t : State, exec .tick s = .next t ∨ (∃ v l, finish (resume (.tick v l)) s = .next t) →
    t.wasCut ∨
      ((t.lastFed = s.lastFed ∨ t.lastFed = some s.now) ∧ (t.t0 = s.t0 ∨ t.t0 = none ∨ t.t0 = some s.now))

/-- The exit sequence (42_power_fsm R331): the disable write under the lock, its success or a first fatal failure alike, then the
exit code; and whatever fails, the supervisor has exited with the code, after at least one attempt to disable. -/
def Obligations.ExitSequence : Prop :=
  ∀ (s s0 : State) (code : Fin 2) (c : Fin 3), c = code.castLE (by decide) →
    s0 = { s with pcSup := .exiting } → s0.canLock →
    (∀ d, s0.takeLock.awaits d →
      ((s0.takeLock.writeAnswer d 0x10 [0x00, 0x00]).1 = .ok () ∨
        ∃ f, (s0.takeLock.writeAnswer d 0x10 [0x00, 0x00]).1 = .error f ∧ failureFatal f = true) →
      exec (.exitSeq code) s = .next ({ (s0.takeLock.didWrite d 0x10 [0x00, 0x00]).dropLock.emit (.exit c) with
        exitCode := some c, pcSup := .exited }.gives .unit)) ∧
    ∀ t, exec (.exitSeq code) s = .next t →
      t.wasCut ∨
        (t.exitCode = some c ∧ t.pcSup = .exited ∧ t.holder = none ∧
          (s.newEvents t).getLast? = some (.exit c) ∧
          ∃ res, .write 0x10 [0x00, 0x00] res ∈ s.newEvents t)

/-! Reset. -/

/-- STARTUP from a valid configuration and a bus that opens (70_reset R700 to R702, R705): the version read that selects the dialect,
the first arm, and the agents started, in Ok after a successful arm and in Start after one that failed transiently; a version read
that fails, in whatever way, and an arm that fails fatally release the lock and run the exit sequence with code 1. -/
def Obligations.StartupCompletes : Prop :=
  ∀ (s s1 s2 : State) (b : BootInput) (bs : List BootInput) (c : Cfg) (o : OpenDraw) (os : List OpenDraw),
    s.busOpen = false → s.pcSup ≠ .exited → s.inp.boot = b :: bs → configOf s.par b = .ok c →
    s.inp.opened = o :: os → o.failed = none → o.susp.cut = false →
    s.comp.wdog.expired (s.now + o.susp.dur) = false →
    s1 = { s with inp := { s.inp with boot := bs, opened := os }, cfg := c }.elapse (s.now + o.susp.dur) o.susp.acts →
    s2 = { s1.emit (.openBus c.busIndex c.deviceAddress none) with
      busOpen := true, handle := some ⟨c.busIndex, c.deviceAddress⟩ } → s2.canLock →
    (∀ (s3 : State) (d1 : BusDraw) (maj min pat alpha : Byte), s2.takeLock.reads d1 0x04 4 [maj, min, pat, alpha] →
      s3 = { s2.takeLock.didRead d1 0x04 4 with dialect := some (if maj.toNat ≤ 1 then .one else .two) } →
      (∀ (s4 s5 : State) (d2 : BusDraw), s3.writes d2 0x10 [0x03, 0xE8] → s4 = s3.didWrite d2 0x10 [0x03, 0xE8] →
        s5 = { s4 with lastFed := some s4.now, fsm := .ok } →
        exec .startup s = .next ({ s5.dropLock with up := true, pcSup := .init, pcSig := .idle }.gives .unit)) ∧
      ∀ (e : TransportError) (u : State), exec .wdArm s3 = .next (u.fails (.transport e)) → u.result = s.result →
        (transportFatal e = false → exec .startup s =
          .next ({ { u with fsm := .start }.dropLock with up := true, pcSup := .init, pcSig := .idle }.gives .unit)) ∧
        (transportFatal e = true → exec .startup s = exec (.exitSeq 1) u.dropLock)) ∧
    ∀ (e : TransportError) (u : State), exec .rdFwver s2.takeLock = .next (u.fails (.transport e)) → u.result = s.result →
      exec .startup s = exec (.exitSeq 1) { u.dropLock with supErr := some (.startupReadFailed e) }

/-- STARTUP that ends before the bus is open (70_reset R700, R703, R705): an invalid configuration exits with code 2, a failed
open with code 1, and nothing is sent. That an invalid configuration is not stored is the model's choice (log 25; R700 writes cfg
first), that the supervisor is then at Exited is too (log 47), and that a second STARTUP is a fault of the model is its reading of
R708 (log 31). -/
def Obligations.StartupExits : Prop :=
  ∀ s : State,
    (s.busOpen = false → s.pcSup ≠ .exited → ∀ b bs, s.inp.boot = b :: bs →
      (∀ e, configOf s.par b = .error e →
        exec .startup s = .next ({ { s with inp := { s.inp with boot := bs } }.emit (.exit 2) with
          exitCode := some 2, supErr := some (.configInvalid e), pcSup := .exited }.gives .unit)) ∧
      ∀ c o os e u, configOf s.par b = .ok c → s.inp.opened = o :: os → o.failed = some e → o.susp.cut = false →
        s.comp.wdog.expired (s.now + o.susp.dur) = false →
        u = ({ s with inp := { s.inp with boot := bs, opened := os }, cfg := c }.elapse (s.now + o.susp.dur)
          o.susp.acts).emit (.openBus c.busIndex c.deviceAddress (some e)) →
        exec .startup s = .next ({ u.emit (.exit 1) with
          exitCode := some 1, supErr := some (.busOpenFailed e), pcSup := .exited }.gives .unit)) ∧
    (s.busOpen = true ∨ s.pcSup = .exited → exec .startup s = .fault .alreadyStarted)

/-- The state after a STARTUP that starts the agents, from the block before reset with any inputs (70_reset R706, R701, R702, R704):
every register of 10_state R21 and the control points. The configuration is the resolved one, the dialect is selected by the
version that was read, and the last feed is the time of the arm's successful write (its end, log 34). -/
def Obligations.StartupLeaves : Prop :=
  ∀ (par : Params) (inp : Inputs) (now : Nat) (t : State),
    exec .startup { State.initial par with inp := inp, now := now } = .next t → t.up = true →
      (∀ b bs, inp.boot = b :: bs → configOf par b = .ok t.cfg) ∧ cfgValid t.cfg = true ∧
      ((t.fsm = .ok ∧ ∃ at_, t.lastFed = some at_ ∧ (at_, .write 0x10 [0x03, 0xE8] (.ok ())) ∈ t.trace) ∨
        (t.fsm = .start ∧ t.lastFed = none ∧ .write 0x10 [0x03, 0xE8] (.ok ()) ∉ t.trace.map Prod.snd)) ∧
      (∃ maj min pat alpha, .read 0x04 4 (.ok [maj, min, pat, alpha]) ∈ t.trace.map Prod.snd ∧
        t.dialect = some (if maj.toNat ≤ 1 then .one else .two)) ∧
      t.t0 = none ∧ t.step1Done = false ∧ t.busOpen = true ∧
      t.handle = some ⟨t.cfg.busIndex, t.cfg.deviceAddress⟩ ∧
      t.holder = none ∧ t.measLast = none ∧ t.intent = false ∧
      (t.sigCancel = false ↔ ∀ k, .signal k ∉ t.trace.map Prod.snd) ∧
      t.session = none ∧ t.exitCode = none ∧ t.pcSup = .init ∧ t.pcSig = .idle ∧ t.reqs = [] ∧ t.pcDfu = [] ∧
      t.waiters = [] ∧ t.replies = []

/-- The resolved configuration (70_reset R703, R704): a configuration is the result exactly when, field by field, it is the flag's
value of the field's type, else the file's, else the built-in default, and is in its ranges, bounds included; the file is the one
of `--conf`, else /etc/halpid/halpid.conf; a file the parser cannot read is invalid. That such a file is named whatever the flags
hold is the model's choice (log 45). That a missing file gives nothing is the
model's choice (log 25), and so is a whole number as volts or seconds, and that a rational is of no whole-number type (log 24). -/
def Obligations.ConfigPrecedence : Prop :=
  ∀ (par : Params) (b : BootInput) (path : Text),
    (∀ p, b.conf = some p → path = p) → (b.conf = none → path = asciiText "/etc/halpid/halpid.conf") →
    (b.files.lookup path = some .unreadable → configOf par b = .error .file) ∧
    ∀ file, b.files.lookup path = some (.values file) ∨
        ((b.files.lookup path = none ∨ b.files.lookup path = some .absent) ∧ file = RawCfg.empty) →
      ∀ c, configOf par b = .ok c ↔
        (0 ≤ c.vlim ∧ c.vlim ≤ 30 ∧ 1 / 10 ≤ c.tlim ∧ c.tlim ≤ 600 ∧
          0x08 ≤ c.deviceAddress.toNat ∧ c.deviceAddress.toNat ≤ 0x77) ∧
        ((∀ v, b.flags.busIndex = some v → v = .int c.busIndex) ∧
          (b.flags.busIndex = none → ∀ v, file.busIndex = some v → v = .int c.busIndex) ∧
          (b.flags.busIndex = none → file.busIndex = none → c.busIndex = par.defaultBus)) ∧
        ((∀ v, b.flags.deviceAddress = some v → v = .int c.deviceAddress.toNat) ∧
          (b.flags.deviceAddress = none → ∀ v, file.deviceAddress = some v → v = .int c.deviceAddress.toNat) ∧
          (b.flags.deviceAddress = none → file.deviceAddress = none → c.deviceAddress = par.defaultDevAddr)) ∧
        ((∀ v, b.flags.vlim = some v → isRat v c.vlim) ∧
          (b.flags.vlim = none → ∀ v, file.vlim = some v → isRat v c.vlim) ∧
          (b.flags.vlim = none → file.vlim = none → c.vlim = par.defaultVlim)) ∧
        ((∀ v, b.flags.tlim = some v → isRat v c.tlim) ∧
          (b.flags.tlim = none → ∀ v, file.tlim = some v → isRat v c.tlim) ∧
          (b.flags.tlim = none → file.tlim = none → c.tlim = par.defaultTlim)) ∧
        ((∀ v, b.flags.socketPath = some v → v = .text c.socketPath) ∧
          (b.flags.socketPath = none → ∀ v, file.socketPath = some v → v = .text c.socketPath) ∧
          (b.flags.socketPath = none → file.socketPath = none → c.socketPath = asciiText "/run/halpid/halpid.sock")) ∧
        ((∀ v, b.flags.socketGroup = some v → v = .text c.socketGroup) ∧
          (b.flags.socketGroup = none → ∀ v, file.socketGroup = some v → v = .text c.socketGroup) ∧
          (b.flags.socketGroup = none → file.socketGroup = none → c.socketGroup = asciiText "adm")) ∧
        ((∀ v, b.flags.poweroff = some v → v = .text c.poweroff) ∧
          (b.flags.poweroff = none → ∀ v, file.poweroff = some v → v = .text c.poweroff) ∧
          (b.flags.poweroff = none → file.poweroff = none → c.poweroff = par.defaultPoweroff))

/-! The framer. -/

/-- CRC32 completes and has the spec's check values; its parameters are those the spec names from general knowledge
(43_dfu_framer R350, log 7). -/
def Obligations.CrcValues : Prop :=
  (∀ (s : State) (data : List Byte), exec (.crc32 data) s = .next (s.gives (.num (crc32 data).toNat))) ∧
  crc32 [0x31, 0x32, 0x33, 0x34, 0x35, 0x36, 0x37, 0x38, 0x39] = 0xCBF43926#32 ∧
  crc32 [] = 0#32 ∧ crc32 [0x00, 0x00, 0x00, 0x00] = 0x2144DF1C#32

/-- FRAME (43_dfu_framer R351, R352, 30_encoding R104): the CRC of what follows it, the index, the length, the data; outside the
ranges of the rule it is a fault of the model. -/
def Obligations.FrameBytes : Prop :=
  ∀ (s : State) (i : Nat) (data : List Byte),
    (i ≤ 65534 → 1 ≤ data.length → data.length ≤ 4096 →
      ∃ body c, body = BitVec.ofNat 8 (i / 256) :: BitVec.ofNat 8 i :: BitVec.ofNat 8 (data.length / 256) ::
          BitVec.ofNat 8 data.length :: data ∧
        c = (crc32 body).toNat ∧
        exec (.frame i data) s = .next (s.gives (.bytes (BitVec.ofNat 8 (c / 2 ^ 24) :: BitVec.ofNat 8 (c / 2 ^ 16) ::
          BitVec.ofNat 8 (c / 2 ^ 8) :: BitVec.ofNat 8 c :: body)))) ∧
    (65534 < i ∨ data.length = 0 ∨ 4096 < data.length → exec (.frame i data) s = .fault .frameOutOfRange)

/-- PARTITION (43_dfu_framer R353): ceil(N / 4096) blocks, block i the bytes from 4096·i up, every block but the last 4096 bytes
and the last what is left, from 1 to 4096; together they are the image. -/
def Obligations.PartitionBlocks : Prop :=
  ∀ (s : State) (image : List Byte), 1 ≤ image.length → image.length ≤ 268431360 →
    ∃ blocks, exec (.partition image) s = .next (s.gives (.blocks blocks)) ∧
      blocks.length = (image.length + 4095) / 4096 ∧ blocks.flatten = image ∧
      (∀ i, i + 1 < blocks.length → (blocks[i]?).map List.length = some 4096) ∧
      (∀ i, i < blocks.length → blocks[i]? = some ((image.drop (4096 * i)).take 4096)) ∧
      (∀ b, blocks.getLast? = some b →
        b.length = image.length - 4096 * (blocks.length - 1) ∧ 1 ≤ b.length ∧ b.length ≤ 4096)

/-- The DFU registers (43_dfu_framer R360, R361, R363): the start write of the size, the status read that a session remembers, the
block write of the whole frame. That a size outside R360's range is refused with nothing written, as an image of that size is
(log 30), and that a status read outside a session writes nothing (log 11), are the model's choices. -/
def Obligations.DfuRegisters : Prop :=
  ∀ (s : State) (d : BusDraw),
    (∀ n, n = 0 ∨ 268431360 < n → exec (.wrDfuStart n) s = .next (s.fails (.badRequest (.imageSize n)))) ∧
    (∀ n, 1 ≤ n → n ≤ 268431360 →
      ∀ data, data = [BitVec.ofNat 8 (n / 2 ^ 24), BitVec.ofNat 8 (n / 2 ^ 16), BitVec.ofNat 8 (n / 2 ^ 8), BitVec.ofNat 8 n] →
      s.writes d 0x40 data → exec (.wrDfuStart n) s = .next ((s.didWrite d 0x40 data).gives .unit)) ∧
    (∀ st, s.reads d 0x41 1 [st] → exec .rdDfuStatus s = .next ((s.polled d st).gives (.num st.toNat))) ∧
    ∀ i data, i ≤ 65534 → 1 ≤ data.length → data.length ≤ 4096 → s.writes d 0x43 (frameBytes i data) →
      exec (.wrDfuBlock i data) s = .next ((s.didWrite d 0x43 (frameBytes i data)).gives .unit)

/-! The DFU engine. -/

/-- PREWAIT, followed poll by poll (44_dfu_engine R385 to R388): a signal before it cancels at once; else after the sleep of 100 ms
and any number of polls that answered Preparing or QueueFull, a ready status ends it, an error status is raised, a transport error
of the poll is raised (R389), and else the limit is tested first and the signal second. That it runs outside a session too, where
its polls remember nothing and an engine is at its point, is the model's choice (log 11, log 37, log 48). -/
def Obligations.PrewaitFollows : Prop :=
  ∀ (s s0 : State) (i : Nat), s0 = s.dfuAt s.cur (.preWait i) →
    (s.sigCancel = true → exec (.dfuPrewait i) s = .next (s0.fails (.dfuCancelled i))) ∧
    (s.sigCancel = false → ∀ p, s0.rests p 100 → ∀ (l : List WaitPoll) (u : State),
      (s0.didSleep p 100).keepsPolling (s0.didSleep p 100).now l → u = (s0.didSleep p 100).afterPolls l →
      (∀ (e : TransportError) (v : State), exec .rdDfuStatus u = .next (v.fails (.transport e)) →
        exec (.dfuPrewait i) s = .next (v.fails (.transport e))) ∧
      ∀ (d : BusDraw) (st : Byte), u.reads d 0x41 1 [st] →
      (st = 2 ∨ st = 4 → exec (.dfuPrewait i) s = .next ((u.polled d st).gives .unit)) ∧
      (st = 0 → exec (.dfuPrewait i) s = .next ((u.polled d st).fails (.dfuIdle .preWait))) ∧
      (5 ≤ st.toNat → st.toNat ≤ 8 → exec (.dfuPrewait i) s = .next ((u.polled d st).fails (.dfuStatus st))) ∧
      (9 ≤ st.toNat → exec (.dfuPrewait i) s = .next ((u.polled d st).fails (.dfuUnknown st))) ∧
      (st = 1 ∨ st = 3 → 30000 ≤ (u.polled d st).now - (s0.didSleep p 100).now →
        exec (.dfuPrewait i) s = .next ((u.polled d st).fails (.dfuTimeout .preWait (some i)))) ∧
      (st = 1 ∨ st = 3 → (u.polled d st).now - (s0.didSleep p 100).now < 30000 → (u.polled d st).sigCancel = true →
        exec (.dfuPrewait i) s = .next ((u.polled d st).fails (.dfuCancelled i))))

/-- DRAIN, followed iteration by iteration in dialect 2 (44_dfu_engine R393 to R396): it ends on status 4 with the count B, an error
status is raised before the count is read, a transport error of either read is raised (R383), and after 5 s an iteration that did
not succeed is a size mismatch on status 4 and else a timeout. That it runs outside a session too, where its polls remember nothing,
and an engine is at its point, is the model's choice (log 11, log 37, log 48). -/
def Obligations.DrainFollows : Prop :=
  ∀ (s u : State) (total : Nat) (l : List DrainRound), s.dialect = some .two →
    (s.dfuAt s.cur .drain).keepsDraining s.now total l → u = (s.dfuAt s.cur .drain).afterRounds l →
    (∀ (e : TransportError) (v : State), exec .rdDfuStatus u = .next (v.fails (.transport e)) →
      exec (.dfuDrain total) s = .next (v.fails (.transport e))) ∧
    (∀ (d : BusDraw) (st : Byte) (gap : Susp) (e : TransportError) (v : State), u.reads d 0x41 1 [st] → 1 ≤ st.toNat →
      st.toNat ≤ 4 → (u.polled d st).rests gap 100 →
      exec .rdDfuBw ((u.polled d st).didSleep gap 100) = .next (v.fails (.transport e)) →
      exec (.dfuDrain total) s = .next (v.fails (.transport e))) ∧
    (∀ d st, u.reads d 0x41 1 [st] →
      (st = 0 → exec (.dfuDrain total) s = .next ((u.polled d st).fails (.dfuIdle .drain))) ∧
      (5 ≤ st.toNat → st.toNat ≤ 8 → exec (.dfuDrain total) s = .next ((u.polled d st).fails (.dfuStatus st))) ∧
      (9 ≤ st.toNat → exec (.dfuDrain total) s = .next ((u.polled d st).fails (.dfuUnknown st)))) ∧
    ∀ w, u.counts w →
      (w.status = 4 → w.count = total → exec (.dfuDrain total) s = .next ((u.counted w).gives .unit)) ∧
      (w.status = 4 → w.count ≠ total → 5000 ≤ (u.counted w).now - s.now →
        exec (.dfuDrain total) s = .next ((u.counted w).fails (.dfuSizeMismatch w.count total))) ∧
      (w.status ≠ 4 → 5000 ≤ (u.counted w).now - s.now →
        exec (.dfuDrain total) s = .next ((u.counted w).fails (.dfuTimeout .drain none)))

/-- DFU_SEND, COMMIT_SEQ and ABORT_SEQ (44_dfu_engine R390, R397, R398, R400, R401): block i of the engine's image as one frame,
whatever comes of that write, and the fault of 43_dfu_framer R352 where there is no such block, as outside a session (log 37); the
commit after 100 ms, a failure of its write raised; the abort after 100 ms, a failure of its write ignored, be it fatal or of all
four attempts. The engine whose control point each sets outside an upload is the model's (log 48). -/
def Obligations.SessionSteps : Prop :=
  ∀ s : State,
    (∀ i, 65534 < i ∨ s.dfuImage.length ≤ 4096 * i → exec (.dfuSend i) s = .fault .frameOutOfRange) ∧
    (∀ i d, i ≤ 65534 → 4096 * i < s.dfuImage.length →
      ∀ frame, frame = frameBytes i ((s.dfuImage.drop (4096 * i)).take 4096) →
      (s.dfuAt s.cur (.send i)).writes d 0x43 frame →
      exec (.dfuSend i) s = .next (((s.dfuAt s.cur (.send i)).didWrite d 0x43 frame).gives .unit)) ∧
    (∀ i, exec (.dfuSend i) s =
      exec (.wrDfuBlock i ((s.dfuImage.drop (4096 * i)).take 4096)) (s.dfuAt s.cur (.send i))) ∧
    (∀ p u, (s.dfuAt s.cur .commit).rests p 100 → u = (s.dfuAt s.cur .commit).didSleep p 100 →
      (∀ d, u.writes d 0x44 [0x00] → exec .dfuCommitSeq s = .next ((u.didWrite d 0x44 [0x00]).gives .unit)) ∧
      ∀ (e : TransportError) (v : State), exec .wrDfuCommit u = .next (v.fails (.transport e)) →
        exec .dfuCommitSeq s = .next (v.fails (.transport e))) ∧
    (∀ p d u, (s.dfuAt s.cur .abort).rests p 100 → u = (s.dfuAt s.cur .abort).didSleep p 100 →
      u.awaits d →
      ((u.writeAnswer d 0x45 [0x00]).1 = .ok () ∨ ∃ f, (u.writeAnswer d 0x45 [0x00]).1 = .error f ∧ failureFatal f = true) →
      exec .dfuAbortSeq s = .next ((u.didWrite d 0x45 [0x00]).gives .unit)) ∧
    ∀ (p : Susp) (u v : State) (e : TransportError), (s.dfuAt s.cur .abort).rests p 100 → u = (s.dfuAt s.cur .abort).didSleep p 100 →
      exec .wrDfuAbort u = .next (v.fails (.transport e)) → exec .dfuAbortSeq s = .next (v.gives .unit)

/-- An image of no bytes, or of more than 65535 blocks of 4096, is refused before the lock is taken: nothing is written to the bus
and no session exists (44_dfu_engine R381). Where the refused engine's control point stays is left open (log 42). -/
def Obligations.UploadRefused : Prop :=
  ∀ (s : State) (image : List Byte), image.length = 0 ∨ 65535 * 4096 < image.length →
    ∃ points, (∀ a, a ≠ s.cur → points.lookup a = s.pcDfu.lookup a) ∧
      exec (.dfuUpload image) s =
        .next ({ s with pcDfu := points }.fails (.badRequest (.imageSize image.length))) ∧
      exec (.cUpload image) s =
        .next ({ s with pcDfu := points }.answered (.error (.badRequest (.imageSize image.length))))

/-- An upload of any legal image to the reference companion (60_exceptions R633) completes: the start write, every frame in order,
each followed by its progress report (44_dfu_engine R391), the commit, no abort, no error, in exactly 100·B + 200 ms of sleeps
(44_dfu_engine R380, R390, R402, 70_reset R714). -/
def Obligations.UploadCompletes : Prop :=
  ∀ (s : State) (image : List Byte) (blocks : Nat) (c : RefCompanion),
    1 ≤ image.length → image.length ≤ 268431360 → blocks = (image.length + 4095) / 4096 →
    s.canLock → s.busOpen = true → s.dialect = some .two → s.sigCancel = false →
    s.comp.ref = some c → c.preparingPolls = 0 → c.queueFullPolls = [] → s.comp.wdog = .disabled →
    s.quietFor (2 * blocks + 4) (blocks + 2) →
    ∀ i ∈ [Instr.dfuUpload image, .cUpload image], ∃ t, exec i s = .next t ∧
      (i = .dfuUpload image → t.result = some (.value .unit)) ∧ (i = .cUpload image → t.result = some (.reply (.value .unit))) ∧
      (s.newEvents t).filterMap (Event.writtenTo 0x40) = [be32 image.length] ∧
      (s.newEvents t).filter Event.isBlockDone = blocksDone s.cur image blocks blocks ∧
      (s.newEvents t).filterMap (Event.writtenTo 0x44) = [[0x00]] ∧
      (∀ e ∈ s.newEvents t, e.isWriteTo 0x45 = false) ∧
      t.now = s.now + (100 * blocks + 200) ∧ t.holder = none ∧ t.session = none ∧ t.pcDfu.lookup s.cur = some .done ∧
      t.fsm = s.fsm ∧ t.lastFed = s.lastFed ∧ t.dialect = s.dialect

/-- Along every DFU_UPLOAD, whatever the companion answers and whatever lands (44_dfu_engine R391, R399, R402, R405): on success the
frames of all blocks in order, each followed by its progress report, and one commit and no abort; on an error an initial part of
them, no progress for a write that failed, no commit that succeeded, none attempted unless a transport error ended the session, and
one abort write of at most four attempts; the lock is released, the session gone, and the power machine and the dialect as they
were. A fixed dialect-1 sequence is left out: its transactions are the parameter's. With the parameter unfixed, what is said of
writes rests on the model's choice that an unfixed read shows no bus trace (log 20). -/
def Obligations.SessionWrites : Prop :=
  ∀ (s t : State) (image : List Byte) (blocks : Nat), 1 ≤ image.length → image.length ≤ 268431360 →
    blocks = (image.length + 4095) / 4096 → s.canLock → s.dialect = some .two ∨ s.par.dialect1 = .unfixed →
    exec (.dfuUpload image) s = .next t →
    t.wasCut ∨
      (t.holder = none ∧ t.session = none ∧ t.fsm = s.fsm ∧ t.t0 = s.t0 ∧ t.lastFed = s.lastFed ∧ t.step1Done = s.step1Done ∧
        t.intent = s.intent ∧ t.measLast = s.measLast ∧ t.dialect = s.dialect ∧ t.exitCode = s.exitCode ∧
        ((t.result = some (.value .unit) ∧
            (s.newEvents t).filter Event.isBlockDone = blocksDone s.cur image blocks blocks ∧
            (s.newEvents t).filterMap (Event.writtenTo 0x44) = [[0x00]] ∧
            ∀ e ∈ s.newEvents t, e.isWriteTo 0x45 = false) ∨
          ∃ err, t.result = some (.error err) ∧
            (∃ k ≤ blocks, (s.newEvents t).filter Event.isBlockDone = blocksDone s.cur image blocks k) ∧
            (s.newEvents t).filterMap (Event.writtenTo 0x44) = [] ∧
            ((∀ e, err ≠ .transport e) → ∀ e ∈ s.newEvents t, e.isWriteTo 0x44 = false) ∧
            1 ≤ ((s.newEvents t).filter (Event.isWriteTo 0x45)).length ∧
            ((s.newEvents t).filter (Event.isWriteTo 0x45)).length ≤ 4))

/-! The control port. -/

/-- Configuration requests (45_control R452, R453, R460, R462), for the seven keys of R460 by name: a get replies the key's field,
or the whole record; a set of a value of the key's type and in its range changes that field only, the open bus handle not among
them; a value of another type or out of range is a bad request and changes nothing; another key is not found. No transaction is
issued. That a whole number is taken as volts or seconds too, and that a rational, also a whole one, is of no whole-number type, is
the model's (log 24). -/
def Obligations.ConfigRequests : Prop :=
  ∀ s : State,
    exec (.cGetConfig none) s = .next (s.answered (.value (.config s.cfg))) ∧
    exec (.cGetConfig (some (asciiText "i2c_bus"))) s = .next (s.answered (.value (.cfgValue (.int s.cfg.busIndex)))) ∧
    exec (.cGetConfig (some (asciiText "i2c_addr"))) s = .next (s.answered (.value (.cfgValue (.int s.cfg.deviceAddress.toNat)))) ∧
    exec (.cGetConfig (some (asciiText "blackout_voltage_limit"))) s = .next (s.answered (.value (.cfgValue (.rat s.cfg.vlim)))) ∧
    exec (.cGetConfig (some (asciiText "blackout_time_limit"))) s = .next (s.answered (.value (.cfgValue (.rat s.cfg.tlim)))) ∧
    exec (.cGetConfig (some (asciiText "socket"))) s = .next (s.answered (.value (.cfgValue (.text s.cfg.socketPath)))) ∧
    exec (.cGetConfig (some (asciiText "socket_group"))) s = .next (s.answered (.value (.cfgValue (.text s.cfg.socketGroup)))) ∧
    exec (.cGetConfig (some (asciiText "poweroff"))) s = .next (s.answered (.value (.cfgValue (.text s.cfg.poweroff)))) ∧
    (∀ key, key ∉ configKeys → exec (.cGetConfig (some key)) s = .next (s.answered (.error (.notFound (.key key)))) ∧
      ∀ v, exec (.cSetConfig key v) s = .next (s.answered (.error (.notFound (.key key))))) ∧
    (∀ n : Nat, exec (.cSetConfig (asciiText "i2c_bus") (.int n)) s =
      .next ({ s with cfg := { s.cfg with busIndex := n } }.answered (.value .unit))) ∧
    (∀ v, (∀ n : Nat, v ≠ .int n) → exec (.cSetConfig (asciiText "i2c_bus") v) s = .next (s.answered (.error (.badRequest (.value v))))) ∧
    (∀ a : Int, 0x08 ≤ a → a ≤ 0x77 → exec (.cSetConfig (asciiText "i2c_addr") (.int a)) s =
      .next ({ s with cfg := { s.cfg with deviceAddress := BitVec.ofInt 7 a } }.answered (.value .unit))) ∧
    (∀ v, (∀ a : Int, 0x08 ≤ a → a ≤ 0x77 → v ≠ .int a) →
      exec (.cSetConfig (asciiText "i2c_addr") v) s = .next (s.answered (.error (.badRequest (.value v))))) ∧
    (∀ v (q : Rat), isRat v q → 0 ≤ q → q ≤ 30 → exec (.cSetConfig (asciiText "blackout_voltage_limit") v) s =
      .next ({ s with cfg := { s.cfg with vlim := q } }.answered (.value .unit))) ∧
    (∀ v, (∀ q : Rat, 0 ≤ q → q ≤ 30 → ¬isRat v q) → exec (.cSetConfig (asciiText "blackout_voltage_limit") v) s =
      .next (s.answered (.error (.badRequest (.value v))))) ∧
    (∀ v (q : Rat), isRat v q → 1 / 10 ≤ q → q ≤ 600 → exec (.cSetConfig (asciiText "blackout_time_limit") v) s =
      .next ({ s with cfg := { s.cfg with tlim := q } }.answered (.value .unit))) ∧
    (∀ v, (∀ q : Rat, 1 / 10 ≤ q → q ≤ 600 → ¬isRat v q) → exec (.cSetConfig (asciiText "blackout_time_limit") v) s =
      .next (s.answered (.error (.badRequest (.value v))))) ∧
    (∀ x : Text,
      exec (.cSetConfig (asciiText "socket") (.text x)) s =
        .next ({ s with cfg := { s.cfg with socketPath := x } }.answered (.value .unit)) ∧
      exec (.cSetConfig (asciiText "socket_group") (.text x)) s =
        .next ({ s with cfg := { s.cfg with socketGroup := x } }.answered (.value .unit)) ∧
      exec (.cSetConfig (asciiText "poweroff") (.text x)) s =
        .next ({ s with cfg := { s.cfg with poweroff := x } }.answered (.value .unit))) ∧
    ∀ v, (∀ x : Text, v ≠ .text x) → ∀ key ∈ [asciiText "socket", asciiText "socket_group", asciiText "poweroff"],
      exec (.cSetConfig key v) s = .next (s.answered (.error (.badRequest (.value v))))

/-- C_SNAPSHOT, C_GET_USB and C_SET_USB (45_control R451, R463, R464, 41_register_ops R255, R261, R262) complete with the lock free:
in dialect 2 six reads under one hold give the snapshot, which is remembered; one read gives the port's state; one write sets it.
And whatever the operation's course, its value is the reply, an error is replied as Internal. -/
def Obligations.BusRequests : Prop :=
  ∀ s u : State, s.canLock →
    (∀ (s1 s2 s3 s4 s5 s6 : State) (d0 d1 d2 d3 d4 d5 : BusDraw) (a0 b0 a1 b1 a2 b2 a3 b3 a4 b4 p : Byte) (m : Snapshot),
      s.dialect = some .two →
      s.takeLock.reads d0 0x20 2 [a0, b0] → s1 = s.takeLock.didRead d0 0x20 2 →
      s1.reads d1 0x21 2 [a1, b1] → s2 = s1.didRead d1 0x21 2 →
      s2.reads d2 0x22 2 [a2, b2] → s3 = s2.didRead d2 0x22 2 →
      s3.reads d3 0x23 2 [a3, b3] → s4 = s3.didRead d3 0x23 2 →
      s4.reads d4 0x24 2 [a4, b4] → s5 = s4.didRead d4 0x24 2 →
      s5.reads d5 0x25 1 [p] → s6 = s5.didRead d5 0x25 1 →
      m = { vin := a0 ++ b0, vscap := a1 ++ b1, iin := a2 ++ b2, tmcu := a3 ++ b3, tpcb := a4 ++ b4, pstate := decodePs p } →
      exec .cSnapshot s = .next ({ s6.dropLock with measLast := some m }.answered (.value (.snapshot m)))) ∧
    (∀ (p : Nat) (r b : Byte) (d : BusDraw), p ≤ 3 → r = BitVec.ofNat 8 (0x26 + p) → s.takeLock.reads d r 1 [b] →
      (b = 0 → exec (.cGetUsb p) s = .next ((s.takeLock.didRead d r 1).dropLock.answered (.value (.bool false)))) ∧
      (b = 1 → exec (.cGetUsb p) s = .next ((s.takeLock.didRead d r 1).dropLock.answered (.value (.bool true)))) ∧
      (2 ≤ b.toNat →
        exec (.cGetUsb p) s = .next ((s.takeLock.didRead d r 1).dropLock.answered (.error (.internal (.badValue r b)))))) ∧
    (∀ (p : Nat) (on : Bool) (r : Byte) (d : BusDraw), p ≤ 3 → r = BitVec.ofNat 8 (0x26 + p) →
      s.takeLock.writes d r [if on then 1 else 0] →
      exec (.cSetUsb p on) s = .next ((s.takeLock.didWrite d r [if on then 1 else 0]).dropLock.answered (.value .unit))) ∧
    (∀ m, exec .readMeasurements s.takeLock = .next u → u.result = some (.value (.snapshot m)) →
      exec .cSnapshot s = .next ({ u.dropLock with measLast := some m }.answered (.value (.snapshot m)))) ∧
    (∀ e, exec .readMeasurements s.takeLock = .next u → u.result = some (.error (.transport e)) →
      exec .cSnapshot s = .next (u.dropLock.answered (.error (.internal (.transport e))))) ∧
    (∀ (p : Nat) (v : Bool), p ≤ 3 → exec (.getUsb p) s.takeLock = .next u → u.result = some (.value (.bool v)) →
      exec (.cGetUsb p) s = .next (u.dropLock.answered (.value (.bool v)))) ∧
    (∀ (p : Nat) (e : TransportError), p ≤ 3 → exec (.getUsb p) s.takeLock = .next u →
      u.result = some (.error (.transport e)) →
      exec (.cGetUsb p) s = .next (u.dropLock.answered (.error (.internal (.transport e))))) ∧
    (∀ (p : Nat) (r b : Byte), p ≤ 3 → exec (.getUsb p) s.takeLock = .next u → u.result = some (.error (.badValue r b)) →
      exec (.cGetUsb p) s = .next (u.dropLock.answered (.error (.internal (.badValue r b))))) ∧
    (∀ (p : Nat) (on : Bool), p ≤ 3 → exec (.setUsb p on) s.takeLock = .next u → u.result = some (.value .unit) →
      exec (.cSetUsb p on) s = .next (u.dropLock.answered (.value .unit))) ∧
    ∀ (p : Nat) (on : Bool) (e : TransportError), p ≤ 3 → exec (.setUsb p on) s.takeLock = .next u →
      u.result = some (.error (.transport e)) →
      exec (.cSetUsb p on) s = .next (u.dropLock.answered (.error (.internal (.transport e))))

/-- C_SHUTDOWN (45_control R466, 10_state R36): the write to 0x30 under the lock, then the intent whether or not the write
succeeded; and whatever the companion answers, the intent is set and the reply is ok or Internal. -/
def Obligations.ShutdownRequest : Prop :=
  ∀ s : State, s.canLock →
    (∀ d, s.takeLock.writes d 0x30 [0x01] →
      exec .cShutdown s =
        .next ({ (s.takeLock.didWrite d 0x30 [0x01]).dropLock with intent := true }.answered (.value .unit))) ∧
    (∀ d f, s.takeLock.awaits d → (s.takeLock.writeAnswer d 0x30 [0x01]).1 = .error f → failureFatal f = true →
      exec .cShutdown s =
        .next ({ (s.takeLock.didWrite d 0x30 [0x01]).dropLock with intent := true }.answered
          (.error (.internal (.transport (.single f)))))) ∧
    ∀ t, exec .cShutdown s = .next t →
      t.wasCut ∨ (t.intent = true ∧ t.fsm = s.fsm ∧ t.step1Done = s.step1Done ∧ t.holder = none ∧
        (t.result = some (.reply (.value .unit)) ∨ ∃ e, t.result = some (.reply (.error (.internal (.transport e))))))

/-- C_STANDBY (45_control R467 to R469, 30_encoding R105): a delay is clamped to 2^32 − 1 and written after the mode byte, a
negative one is refused; a wake time becomes the floored difference to the wall clock, clamped at both ends; anything else is
refused. An error of the write is replied as Internal. -/
def Obligations.StandbyRequest : Prop :=
  ∀ s : State,
    (∀ delay : Int, delay < 0 → exec (.cStandby (.delay delay)) s = .next (s.answered (.error (.badRequest (.delay delay))))) ∧
    (∀ given, exec (.cStandby (.other given)) s = .next (s.answered (.error (.badRequest (.datetime given))))) ∧
    ∀ (arg : StandbyArg) (s0 : State) (n : Nat),
      (∃ delay : Int, arg = .delay delay ∧ 0 ≤ delay ∧ n = min delay.toNat (2 ^ 32 - 1) ∧ s0 = s) ∨
        (∃ (wake wall : Rat) (walls : List Rat), arg = .datetime wake ∧ s.inp.wall = wall :: walls ∧
          n = min (wake - wall).floor.toNat (2 ^ 32 - 1) ∧ s0 = { s with inp := { s.inp with wall := walls } }) →
      s0.canLock →
      (∀ (d : BusDraw) (data : List Byte),
        data = [s.par.standbyMode, BitVec.ofNat 8 (n / 2 ^ 24), BitVec.ofNat 8 (n / 2 ^ 16), BitVec.ofNat 8 (n / 2 ^ 8),
          BitVec.ofNat 8 n] → s0.takeLock.writes d 0x31 data →
        exec (.cStandby arg) s = .next ((s0.takeLock.didWrite d 0x31 data).dropLock.answered (.value .unit))) ∧
      ∀ u : State, exec (.requestStandby n) s0.takeLock = .next u →
        (u.result = some (.value .unit) → exec (.cStandby arg) s = .next (u.dropLock.answered (.value .unit))) ∧
        ∀ e, u.result = some (.error (.transport e)) →
          exec (.cStandby arg) s = .next (u.dropLock.answered (.error (.internal (.transport e))))

/-- A reply of NotFound or BadRequest follows a request that issued no transaction; every other error is replied as Internal
(45_control R471). -/
def Obligations.RefusedWithoutTraffic : Prop :=
  ∀ (i : Instr) (s t : State) (e : Err), isControl i = true → exec i s = .next t → t.result = some (.reply (.error e)) →
    s.result ≠ t.result →
    ((∃ w, e = .notFound w) ∨ ∃ w, e = .badRequest w) ∧ (∀ x ∈ s.newEvents t, x.isAttempt = false) ∨ ∃ c, e = .internal c

/-! Every step. -/

/-- Every step keeps what is known of the companion in its form (60_exceptions R631, R632; the form is log 27's). -/
def Obligations.StepKeepsCompanion : Prop :=
  ∀ s t : State, s.companionInv → step s = .next t → t.companionInv

/-- Every step keeps the power machine's own rules: a blackout has its start time (10_state R23), the shutdown request was issued
once Shutdown is reached (42_power_fsm R321), the supervisor has exited exactly when an exit code was written (R331). -/
def Obligations.StepKeepsPower : Prop :=
  ∀ s t : State, s.powerInv → step s = .next t → t.powerInv

/-- Every step ends with the lock free and no session, a started block has its bus, dialect and valid configuration, and the
requests are numbered in arrival order and replied once answered (10_state R31, R51, 70_reset R707, 60_exceptions R640,
45_control R450); and along the block's own steps the supervisor is at WaitLock or Exiting exactly when it waits (R24). That a step
ends with the lock free is the model's grain (log 1). -/
def Obligations.StepKeepsBlock : Prop :=
  ∀ s t : State, s.blockInv → s.requestInv → step s = .next t →
    t.blockInv ∧ t.requestInv ∧ (s.opPort = [] → s.supInv → t.supInv)

/-- Every step moves the clock forward only (00_scope R6), adds to the trace in the clock's order, keeps the parameters, and keeps
the dialect and the handle of an open bus for the whole run (10_state R22, 45_control R462). -/
def Obligations.StepKeepsClock : Prop :=
  ∀ s t : State, s.clockInv → step s = .next t →
    t.clockInv ∧ s.now ≤ t.now ∧ (∃ es, t.trace = s.trace ++ es) ∧ t.par = s.par ∧
      (s.busOpen = true → t.wasCut ∨ (t.busOpen = true ∧ t.dialect = s.dialect ∧ t.handle = s.handle))

/-- The state right after reset has every invariant. -/
def Obligations.ResetMeetsInvariants : Prop :=
  State.reset.companionInv ∧ State.reset.powerInv ∧ State.reset.blockInv ∧ State.reset.requestInv ∧
    State.reset.supInv ∧ State.reset.clockInv

/-- The block never departs from its rules (10_state R23, 60_exceptions R613): from every state with the invariants and with
nothing on the operation port, a step answers a next state, never a fault or a refusal, whatever the companion answers and whatever
lands. -/
def Obligations.BlockNeverFaults : Prop :=
  ∀ s : State, s.powerInv → s.blockInv → s.requestInv → s.opPort = [] →
    ∃ t, step s = .next t
end

