-- ==== Sys2Proof/Laws/State.lean ====
section
/-! SUPPORT. One lemma per field per named update of the state, each true by definition. -/

namespace Sys2Proof.Machine

/-! `State.emit` -/

@[simp] theorem State.emit_cfg (s : State) (e : Event) : (s.emit e).cfg = s.cfg := rfl
@[simp] theorem State.emit_fsm (s : State) (e : Event) : (s.emit e).fsm = s.fsm := rfl
@[simp] theorem State.emit_t0 (s : State) (e : Event) : (s.emit e).t0 = s.t0 := rfl
@[simp] theorem State.emit_step1Done (s : State) (e : Event) : (s.emit e).step1Done = s.step1Done := rfl
@[simp] theorem State.emit_lastFed (s : State) (e : Event) : (s.emit e).lastFed = s.lastFed := rfl
@[simp] theorem State.emit_busOpen (s : State) (e : Event) : (s.emit e).busOpen = s.busOpen := rfl
@[simp] theorem State.emit_dialect (s : State) (e : Event) : (s.emit e).dialect = s.dialect := rfl
@[simp] theorem State.emit_holder (s : State) (e : Event) : (s.emit e).holder = s.holder := rfl
@[simp] theorem State.emit_measLast (s : State) (e : Event) : (s.emit e).measLast = s.measLast := rfl
@[simp] theorem State.emit_intent (s : State) (e : Event) : (s.emit e).intent = s.intent := rfl
@[simp] theorem State.emit_sigCancel (s : State) (e : Event) : (s.emit e).sigCancel = s.sigCancel := rfl
@[simp] theorem State.emit_session (s : State) (e : Event) : (s.emit e).session = s.session := rfl
@[simp] theorem State.emit_exitCode (s : State) (e : Event) : (s.emit e).exitCode = s.exitCode := rfl
@[simp] theorem State.emit_pcSup (s : State) (e : Event) : (s.emit e).pcSup = s.pcSup := rfl
@[simp] theorem State.emit_pcDfu (s : State) (e : Event) : (s.emit e).pcDfu = s.pcDfu := rfl
@[simp] theorem State.emit_pcSig (s : State) (e : Event) : (s.emit e).pcSig = s.pcSig := rfl
@[simp] theorem State.emit_reqs (s : State) (e : Event) : (s.emit e).reqs = s.reqs := rfl
@[simp] theorem State.emit_nextReq (s : State) (e : Event) : (s.emit e).nextReq = s.nextReq := rfl
@[simp] theorem State.emit_up (s : State) (e : Event) : (s.emit e).up = s.up := rfl
@[simp] theorem State.emit_waiters (s : State) (e : Event) : (s.emit e).waiters = s.waiters := rfl
@[simp] theorem State.emit_replies (s : State) (e : Event) : (s.emit e).replies = s.replies := rfl
@[simp] theorem State.emit_handle (s : State) (e : Event) : (s.emit e).handle = s.handle := rfl
@[simp] theorem State.emit_dfuImage (s : State) (e : Event) : (s.emit e).dfuImage = s.dfuImage := rfl
@[simp] theorem State.emit_supErr (s : State) (e : Event) : (s.emit e).supErr = s.supErr := rfl
@[simp] theorem State.emit_supWake (s : State) (e : Event) : (s.emit e).supWake = s.supWake := rfl
@[simp] theorem State.emit_now (s : State) (e : Event) : (s.emit e).now = s.now := rfl
@[simp] theorem State.emit_result (s : State) (e : Event) : (s.emit e).result = s.result := rfl
@[simp] theorem State.emit_comp (s : State) (e : Event) : (s.emit e).comp = s.comp := rfl
@[simp] theorem State.emit_par (s : State) (e : Event) : (s.emit e).par = s.par := rfl
@[simp] theorem State.emit_cur (s : State) (e : Event) : (s.emit e).cur = s.cur := rfl
@[simp] theorem State.emit_opPort (s : State) (e : Event) : (s.emit e).opPort = s.opPort := rfl
@[simp] theorem State.emit_inp (s : State) (e : Event) : (s.emit e).inp = s.inp := rfl
@[simp] theorem State.emit_trace (s : State) (e : Event) : (s.emit e).trace = s.trace ++ [(s.now, e)] := rfl

/-! `State.lostWrite` -/

@[simp] theorem State.lostWrite_cfg (s : State) (r : Byte) (data : List Byte) : (s.lostWrite r data).cfg = s.cfg := rfl
@[simp] theorem State.lostWrite_fsm (s : State) (r : Byte) (data : List Byte) : (s.lostWrite r data).fsm = s.fsm := rfl
@[simp] theorem State.lostWrite_t0 (s : State) (r : Byte) (data : List Byte) : (s.lostWrite r data).t0 = s.t0 := rfl
@[simp] theorem State.lostWrite_step1Done (s : State) (r : Byte) (data : List Byte) : (s.lostWrite r data).step1Done = s.step1Done := rfl
@[simp] theorem State.lostWrite_lastFed (s : State) (r : Byte) (data : List Byte) : (s.lostWrite r data).lastFed = s.lastFed := rfl
@[simp] theorem State.lostWrite_busOpen (s : State) (r : Byte) (data : List Byte) : (s.lostWrite r data).busOpen = s.busOpen := rfl
@[simp] theorem State.lostWrite_dialect (s : State) (r : Byte) (data : List Byte) : (s.lostWrite r data).dialect = s.dialect := rfl
@[simp] theorem State.lostWrite_holder (s : State) (r : Byte) (data : List Byte) : (s.lostWrite r data).holder = s.holder := rfl
@[simp] theorem State.lostWrite_measLast (s : State) (r : Byte) (data : List Byte) : (s.lostWrite r data).measLast = s.measLast := rfl
@[simp] theorem State.lostWrite_intent (s : State) (r : Byte) (data : List Byte) : (s.lostWrite r data).intent = s.intent := rfl
@[simp] theorem State.lostWrite_sigCancel (s : State) (r : Byte) (data : List Byte) : (s.lostWrite r data).sigCancel = s.sigCancel := rfl
@[simp] theorem State.lostWrite_session (s : State) (r : Byte) (data : List Byte) : (s.lostWrite r data).session = s.session := rfl
@[simp] theorem State.lostWrite_exitCode (s : State) (r : Byte) (data : List Byte) : (s.lostWrite r data).exitCode = s.exitCode := rfl
@[simp] theorem State.lostWrite_pcSup (s : State) (r : Byte) (data : List Byte) : (s.lostWrite r data).pcSup = s.pcSup := rfl
@[simp] theorem State.lostWrite_pcDfu (s : State) (r : Byte) (data : List Byte) : (s.lostWrite r data).pcDfu = s.pcDfu := rfl
@[simp] theorem State.lostWrite_pcSig (s : State) (r : Byte) (data : List Byte) : (s.lostWrite r data).pcSig = s.pcSig := rfl
@[simp] theorem State.lostWrite_reqs (s : State) (r : Byte) (data : List Byte) : (s.lostWrite r data).reqs = s.reqs := rfl
@[simp] theorem State.lostWrite_nextReq (s : State) (r : Byte) (data : List Byte) : (s.lostWrite r data).nextReq = s.nextReq := rfl
@[simp] theorem State.lostWrite_up (s : State) (r : Byte) (data : List Byte) : (s.lostWrite r data).up = s.up := rfl
@[simp] theorem State.lostWrite_waiters (s : State) (r : Byte) (data : List Byte) : (s.lostWrite r data).waiters = s.waiters := rfl
@[simp] theorem State.lostWrite_replies (s : State) (r : Byte) (data : List Byte) : (s.lostWrite r data).replies = s.replies := rfl
@[simp] theorem State.lostWrite_handle (s : State) (r : Byte) (data : List Byte) : (s.lostWrite r data).handle = s.handle := rfl
@[simp] theorem State.lostWrite_dfuImage (s : State) (r : Byte) (data : List Byte) : (s.lostWrite r data).dfuImage = s.dfuImage := rfl
@[simp] theorem State.lostWrite_supErr (s : State) (r : Byte) (data : List Byte) : (s.lostWrite r data).supErr = s.supErr := rfl
@[simp] theorem State.lostWrite_supWake (s : State) (r : Byte) (data : List Byte) : (s.lostWrite r data).supWake = s.supWake := rfl
@[simp] theorem State.lostWrite_now (s : State) (r : Byte) (data : List Byte) : (s.lostWrite r data).now = s.now := rfl
@[simp] theorem State.lostWrite_result (s : State) (r : Byte) (data : List Byte) : (s.lostWrite r data).result = s.result := rfl
@[simp] theorem State.lostWrite_comp (s : State) (r : Byte) (data : List Byte) : (s.lostWrite r data).comp = { s.comp with mem := noteWrite s.comp.mem r data false } := rfl
@[simp] theorem State.lostWrite_par (s : State) (r : Byte) (data : List Byte) : (s.lostWrite r data).par = s.par := rfl
@[simp] theorem State.lostWrite_cur (s : State) (r : Byte) (data : List Byte) : (s.lostWrite r data).cur = s.cur := rfl
@[simp] theorem State.lostWrite_opPort (s : State) (r : Byte) (data : List Byte) : (s.lostWrite r data).opPort = s.opPort := rfl
@[simp] theorem State.lostWrite_inp (s : State) (r : Byte) (data : List Byte) : (s.lostWrite r data).inp = s.inp := rfl
@[simp] theorem State.lostWrite_trace (s : State) (r : Byte) (data : List Byte) : (s.lostWrite r data).trace = s.trace := rfl

/-! `State.takeLock` -/

@[simp] theorem State.takeLock_cfg (s : State) : (s.takeLock).cfg = s.cfg := rfl
@[simp] theorem State.takeLock_fsm (s : State) : (s.takeLock).fsm = s.fsm := rfl
@[simp] theorem State.takeLock_t0 (s : State) : (s.takeLock).t0 = s.t0 := rfl
@[simp] theorem State.takeLock_step1Done (s : State) : (s.takeLock).step1Done = s.step1Done := rfl
@[simp] theorem State.takeLock_lastFed (s : State) : (s.takeLock).lastFed = s.lastFed := rfl
@[simp] theorem State.takeLock_busOpen (s : State) : (s.takeLock).busOpen = s.busOpen := rfl
@[simp] theorem State.takeLock_dialect (s : State) : (s.takeLock).dialect = s.dialect := rfl
@[simp] theorem State.takeLock_holder (s : State) : (s.takeLock).holder = some s.cur := rfl
@[simp] theorem State.takeLock_measLast (s : State) : (s.takeLock).measLast = s.measLast := rfl
@[simp] theorem State.takeLock_intent (s : State) : (s.takeLock).intent = s.intent := rfl
@[simp] theorem State.takeLock_sigCancel (s : State) : (s.takeLock).sigCancel = s.sigCancel := rfl
@[simp] theorem State.takeLock_session (s : State) : (s.takeLock).session = s.session := rfl
@[simp] theorem State.takeLock_exitCode (s : State) : (s.takeLock).exitCode = s.exitCode := rfl
@[simp] theorem State.takeLock_pcSup (s : State) : (s.takeLock).pcSup = s.pcSup := rfl
@[simp] theorem State.takeLock_pcDfu (s : State) : (s.takeLock).pcDfu = s.pcDfu := rfl
@[simp] theorem State.takeLock_pcSig (s : State) : (s.takeLock).pcSig = s.pcSig := rfl
@[simp] theorem State.takeLock_reqs (s : State) : (s.takeLock).reqs = s.reqs := rfl
@[simp] theorem State.takeLock_nextReq (s : State) : (s.takeLock).nextReq = s.nextReq := rfl
@[simp] theorem State.takeLock_up (s : State) : (s.takeLock).up = s.up := rfl
@[simp] theorem State.takeLock_waiters (s : State) : (s.takeLock).waiters = s.waiters := rfl
@[simp] theorem State.takeLock_replies (s : State) : (s.takeLock).replies = s.replies := rfl
@[simp] theorem State.takeLock_handle (s : State) : (s.takeLock).handle = s.handle := rfl
@[simp] theorem State.takeLock_dfuImage (s : State) : (s.takeLock).dfuImage = s.dfuImage := rfl
@[simp] theorem State.takeLock_supErr (s : State) : (s.takeLock).supErr = s.supErr := rfl
@[simp] theorem State.takeLock_supWake (s : State) : (s.takeLock).supWake = s.supWake := rfl
@[simp] theorem State.takeLock_now (s : State) : (s.takeLock).now = s.now := rfl
@[simp] theorem State.takeLock_result (s : State) : (s.takeLock).result = s.result := rfl
@[simp] theorem State.takeLock_comp (s : State) : (s.takeLock).comp = s.comp := rfl
@[simp] theorem State.takeLock_par (s : State) : (s.takeLock).par = s.par := rfl
@[simp] theorem State.takeLock_cur (s : State) : (s.takeLock).cur = s.cur := rfl
@[simp] theorem State.takeLock_opPort (s : State) : (s.takeLock).opPort = s.opPort := rfl
@[simp] theorem State.takeLock_inp (s : State) : (s.takeLock).inp = s.inp := rfl
@[simp] theorem State.takeLock_trace (s : State) : (s.takeLock).trace = s.trace ++ [(s.now, .lock s.cur)] := rfl

/-! `State.dropLock` -/

@[simp] theorem State.dropLock_cfg (s : State) : (s.dropLock).cfg = s.cfg := rfl
@[simp] theorem State.dropLock_fsm (s : State) : (s.dropLock).fsm = s.fsm := rfl
@[simp] theorem State.dropLock_t0 (s : State) : (s.dropLock).t0 = s.t0 := rfl
@[simp] theorem State.dropLock_step1Done (s : State) : (s.dropLock).step1Done = s.step1Done := rfl
@[simp] theorem State.dropLock_lastFed (s : State) : (s.dropLock).lastFed = s.lastFed := rfl
@[simp] theorem State.dropLock_busOpen (s : State) : (s.dropLock).busOpen = s.busOpen := rfl
@[simp] theorem State.dropLock_dialect (s : State) : (s.dropLock).dialect = s.dialect := rfl
@[simp] theorem State.dropLock_holder (s : State) : (s.dropLock).holder = none := rfl
@[simp] theorem State.dropLock_measLast (s : State) : (s.dropLock).measLast = s.measLast := rfl
@[simp] theorem State.dropLock_intent (s : State) : (s.dropLock).intent = s.intent := rfl
@[simp] theorem State.dropLock_sigCancel (s : State) : (s.dropLock).sigCancel = s.sigCancel := rfl
@[simp] theorem State.dropLock_session (s : State) : (s.dropLock).session = s.session := rfl
@[simp] theorem State.dropLock_exitCode (s : State) : (s.dropLock).exitCode = s.exitCode := rfl
@[simp] theorem State.dropLock_pcSup (s : State) : (s.dropLock).pcSup = s.pcSup := rfl
@[simp] theorem State.dropLock_pcDfu (s : State) : (s.dropLock).pcDfu = s.pcDfu := rfl
@[simp] theorem State.dropLock_pcSig (s : State) : (s.dropLock).pcSig = s.pcSig := rfl
@[simp] theorem State.dropLock_reqs (s : State) : (s.dropLock).reqs = s.reqs := rfl
@[simp] theorem State.dropLock_nextReq (s : State) : (s.dropLock).nextReq = s.nextReq := rfl
@[simp] theorem State.dropLock_up (s : State) : (s.dropLock).up = s.up := rfl
@[simp] theorem State.dropLock_waiters (s : State) : (s.dropLock).waiters = s.waiters := rfl
@[simp] theorem State.dropLock_replies (s : State) : (s.dropLock).replies = s.replies := rfl
@[simp] theorem State.dropLock_handle (s : State) : (s.dropLock).handle = s.handle := rfl
@[simp] theorem State.dropLock_dfuImage (s : State) : (s.dropLock).dfuImage = s.dfuImage := rfl
@[simp] theorem State.dropLock_supErr (s : State) : (s.dropLock).supErr = s.supErr := rfl
@[simp] theorem State.dropLock_supWake (s : State) : (s.dropLock).supWake = s.supWake := rfl
@[simp] theorem State.dropLock_now (s : State) : (s.dropLock).now = s.now := rfl
@[simp] theorem State.dropLock_result (s : State) : (s.dropLock).result = s.result := rfl
@[simp] theorem State.dropLock_comp (s : State) : (s.dropLock).comp = s.comp := rfl
@[simp] theorem State.dropLock_par (s : State) : (s.dropLock).par = s.par := rfl
@[simp] theorem State.dropLock_cur (s : State) : (s.dropLock).cur = s.cur := rfl
@[simp] theorem State.dropLock_opPort (s : State) : (s.dropLock).opPort = s.opPort := rfl
@[simp] theorem State.dropLock_inp (s : State) : (s.dropLock).inp = s.inp := rfl
@[simp] theorem State.dropLock_trace (s : State) : (s.dropLock).trace = s.trace ++ [(s.now, .unlock s.cur)] := rfl

/-! `State.park` -/

@[simp] theorem State.park_cfg (s : State) (a : Agent) (h : Hold) : (s.park a h).cfg = s.cfg := rfl
@[simp] theorem State.park_fsm (s : State) (a : Agent) (h : Hold) : (s.park a h).fsm = s.fsm := rfl
@[simp] theorem State.park_t0 (s : State) (a : Agent) (h : Hold) : (s.park a h).t0 = s.t0 := rfl
@[simp] theorem State.park_step1Done (s : State) (a : Agent) (h : Hold) : (s.park a h).step1Done = s.step1Done := rfl
@[simp] theorem State.park_lastFed (s : State) (a : Agent) (h : Hold) : (s.park a h).lastFed = s.lastFed := rfl
@[simp] theorem State.park_busOpen (s : State) (a : Agent) (h : Hold) : (s.park a h).busOpen = s.busOpen := rfl
@[simp] theorem State.park_dialect (s : State) (a : Agent) (h : Hold) : (s.park a h).dialect = s.dialect := rfl
@[simp] theorem State.park_holder (s : State) (a : Agent) (h : Hold) : (s.park a h).holder = s.holder := rfl
@[simp] theorem State.park_measLast (s : State) (a : Agent) (h : Hold) : (s.park a h).measLast = s.measLast := rfl
@[simp] theorem State.park_intent (s : State) (a : Agent) (h : Hold) : (s.park a h).intent = s.intent := rfl
@[simp] theorem State.park_sigCancel (s : State) (a : Agent) (h : Hold) : (s.park a h).sigCancel = s.sigCancel := rfl
@[simp] theorem State.park_session (s : State) (a : Agent) (h : Hold) : (s.park a h).session = s.session := rfl
@[simp] theorem State.park_exitCode (s : State) (a : Agent) (h : Hold) : (s.park a h).exitCode = s.exitCode := rfl
@[simp] theorem State.park_pcSup (s : State) (a : Agent) (h : Hold) : (s.park a h).pcSup = s.pcSup := rfl
@[simp] theorem State.park_pcDfu (s : State) (a : Agent) (h : Hold) : (s.park a h).pcDfu = s.pcDfu := rfl
@[simp] theorem State.park_pcSig (s : State) (a : Agent) (h : Hold) : (s.park a h).pcSig = s.pcSig := rfl
@[simp] theorem State.park_reqs (s : State) (a : Agent) (h : Hold) : (s.park a h).reqs = s.reqs := rfl
@[simp] theorem State.park_nextReq (s : State) (a : Agent) (h : Hold) : (s.park a h).nextReq = s.nextReq := rfl
@[simp] theorem State.park_up (s : State) (a : Agent) (h : Hold) : (s.park a h).up = s.up := rfl
@[simp] theorem State.park_waiters (s : State) (a : Agent) (h : Hold) : (s.park a h).waiters = s.waiters ++ [⟨a, h⟩] := rfl
@[simp] theorem State.park_replies (s : State) (a : Agent) (h : Hold) : (s.park a h).replies = s.replies := rfl
@[simp] theorem State.park_handle (s : State) (a : Agent) (h : Hold) : (s.park a h).handle = s.handle := rfl
@[simp] theorem State.park_dfuImage (s : State) (a : Agent) (h : Hold) : (s.park a h).dfuImage = s.dfuImage := rfl
@[simp] theorem State.park_supErr (s : State) (a : Agent) (h : Hold) : (s.park a h).supErr = s.supErr := rfl
@[simp] theorem State.park_supWake (s : State) (a : Agent) (h : Hold) : (s.park a h).supWake = s.supWake := rfl
@[simp] theorem State.park_now (s : State) (a : Agent) (h : Hold) : (s.park a h).now = s.now := rfl
@[simp] theorem State.park_result (s : State) (a : Agent) (h : Hold) : (s.park a h).result = s.result := rfl
@[simp] theorem State.park_comp (s : State) (a : Agent) (h : Hold) : (s.park a h).comp = s.comp := rfl
@[simp] theorem State.park_par (s : State) (a : Agent) (h : Hold) : (s.park a h).par = s.par := rfl
@[simp] theorem State.park_cur (s : State) (a : Agent) (h : Hold) : (s.park a h).cur = s.cur := rfl
@[simp] theorem State.park_opPort (s : State) (a : Agent) (h : Hold) : (s.park a h).opPort = s.opPort := rfl
@[simp] theorem State.park_inp (s : State) (a : Agent) (h : Hold) : (s.park a h).inp = s.inp := rfl
@[simp] theorem State.park_trace (s : State) (a : Agent) (h : Hold) : (s.park a h).trace = s.trace := rfl

/-! `State.post` -/

@[simp] theorem State.post_cfg (s : State) (a : Agent) (r : Reply) : (s.post a r).cfg = s.cfg := rfl
@[simp] theorem State.post_fsm (s : State) (a : Agent) (r : Reply) : (s.post a r).fsm = s.fsm := rfl
@[simp] theorem State.post_t0 (s : State) (a : Agent) (r : Reply) : (s.post a r).t0 = s.t0 := rfl
@[simp] theorem State.post_step1Done (s : State) (a : Agent) (r : Reply) : (s.post a r).step1Done = s.step1Done := rfl
@[simp] theorem State.post_lastFed (s : State) (a : Agent) (r : Reply) : (s.post a r).lastFed = s.lastFed := rfl
@[simp] theorem State.post_busOpen (s : State) (a : Agent) (r : Reply) : (s.post a r).busOpen = s.busOpen := rfl
@[simp] theorem State.post_dialect (s : State) (a : Agent) (r : Reply) : (s.post a r).dialect = s.dialect := rfl
@[simp] theorem State.post_holder (s : State) (a : Agent) (r : Reply) : (s.post a r).holder = s.holder := rfl
@[simp] theorem State.post_measLast (s : State) (a : Agent) (r : Reply) : (s.post a r).measLast = s.measLast := rfl
@[simp] theorem State.post_intent (s : State) (a : Agent) (r : Reply) : (s.post a r).intent = s.intent := rfl
@[simp] theorem State.post_sigCancel (s : State) (a : Agent) (r : Reply) : (s.post a r).sigCancel = s.sigCancel := rfl
@[simp] theorem State.post_session (s : State) (a : Agent) (r : Reply) : (s.post a r).session = s.session := rfl
@[simp] theorem State.post_exitCode (s : State) (a : Agent) (r : Reply) : (s.post a r).exitCode = s.exitCode := rfl
@[simp] theorem State.post_pcSup (s : State) (a : Agent) (r : Reply) : (s.post a r).pcSup = s.pcSup := rfl
@[simp] theorem State.post_pcDfu (s : State) (a : Agent) (r : Reply) : (s.post a r).pcDfu = s.pcDfu := rfl
@[simp] theorem State.post_pcSig (s : State) (a : Agent) (r : Reply) : (s.post a r).pcSig = s.pcSig := rfl
@[simp] theorem State.post_reqs (s : State) (a : Agent) (r : Reply) : (s.post a r).reqs = s.reqs := rfl
@[simp] theorem State.post_nextReq (s : State) (a : Agent) (r : Reply) : (s.post a r).nextReq = s.nextReq := rfl
@[simp] theorem State.post_up (s : State) (a : Agent) (r : Reply) : (s.post a r).up = s.up := rfl
@[simp] theorem State.post_waiters (s : State) (a : Agent) (r : Reply) : (s.post a r).waiters = s.waiters := rfl
@[simp] theorem State.post_replies (s : State) (a : Agent) (r : Reply) : (s.post a r).replies = s.replies ++ [(a, r)] := rfl
@[simp] theorem State.post_handle (s : State) (a : Agent) (r : Reply) : (s.post a r).handle = s.handle := rfl
@[simp] theorem State.post_dfuImage (s : State) (a : Agent) (r : Reply) : (s.post a r).dfuImage = s.dfuImage := rfl
@[simp] theorem State.post_supErr (s : State) (a : Agent) (r : Reply) : (s.post a r).supErr = s.supErr := rfl
@[simp] theorem State.post_supWake (s : State) (a : Agent) (r : Reply) : (s.post a r).supWake = s.supWake := rfl
@[simp] theorem State.post_now (s : State) (a : Agent) (r : Reply) : (s.post a r).now = s.now := rfl
@[simp] theorem State.post_result (s : State) (a : Agent) (r : Reply) : (s.post a r).result = s.result := rfl
@[simp] theorem State.post_comp (s : State) (a : Agent) (r : Reply) : (s.post a r).comp = s.comp := rfl
@[simp] theorem State.post_par (s : State) (a : Agent) (r : Reply) : (s.post a r).par = s.par := rfl
@[simp] theorem State.post_cur (s : State) (a : Agent) (r : Reply) : (s.post a r).cur = s.cur := rfl
@[simp] theorem State.post_opPort (s : State) (a : Agent) (r : Reply) : (s.post a r).opPort = s.opPort := rfl
@[simp] theorem State.post_inp (s : State) (a : Agent) (r : Reply) : (s.post a r).inp = s.inp := rfl
@[simp] theorem State.post_trace (s : State) (a : Agent) (r : Reply) : (s.post a r).trace = s.trace := rfl

/-! `State.dfuAt` -/

@[simp] theorem State.dfuAt_cfg (s : State) (a : Agent) (p : DfuPoint) : (s.dfuAt a p).cfg = s.cfg := rfl
@[simp] theorem State.dfuAt_fsm (s : State) (a : Agent) (p : DfuPoint) : (s.dfuAt a p).fsm = s.fsm := rfl
@[simp] theorem State.dfuAt_t0 (s : State) (a : Agent) (p : DfuPoint) : (s.dfuAt a p).t0 = s.t0 := rfl
@[simp] theorem State.dfuAt_step1Done (s : State) (a : Agent) (p : DfuPoint) : (s.dfuAt a p).step1Done = s.step1Done := rfl
@[simp] theorem State.dfuAt_lastFed (s : State) (a : Agent) (p : DfuPoint) : (s.dfuAt a p).lastFed = s.lastFed := rfl
@[simp] theorem State.dfuAt_busOpen (s : State) (a : Agent) (p : DfuPoint) : (s.dfuAt a p).busOpen = s.busOpen := rfl
@[simp] theorem State.dfuAt_dialect (s : State) (a : Agent) (p : DfuPoint) : (s.dfuAt a p).dialect = s.dialect := rfl
@[simp] theorem State.dfuAt_holder (s : State) (a : Agent) (p : DfuPoint) : (s.dfuAt a p).holder = s.holder := rfl
@[simp] theorem State.dfuAt_measLast (s : State) (a : Agent) (p : DfuPoint) : (s.dfuAt a p).measLast = s.measLast := rfl
@[simp] theorem State.dfuAt_intent (s : State) (a : Agent) (p : DfuPoint) : (s.dfuAt a p).intent = s.intent := rfl
@[simp] theorem State.dfuAt_sigCancel (s : State) (a : Agent) (p : DfuPoint) : (s.dfuAt a p).sigCancel = s.sigCancel := rfl
@[simp] theorem State.dfuAt_session (s : State) (a : Agent) (p : DfuPoint) : (s.dfuAt a p).session = s.session := rfl
@[simp] theorem State.dfuAt_exitCode (s : State) (a : Agent) (p : DfuPoint) : (s.dfuAt a p).exitCode = s.exitCode := rfl
@[simp] theorem State.dfuAt_pcSup (s : State) (a : Agent) (p : DfuPoint) : (s.dfuAt a p).pcSup = s.pcSup := rfl
@[simp] theorem State.dfuAt_pcDfu (s : State) (a : Agent) (p : DfuPoint) : (s.dfuAt a p).pcDfu = setPoint s.pcDfu a p := rfl
@[simp] theorem State.dfuAt_pcSig (s : State) (a : Agent) (p : DfuPoint) : (s.dfuAt a p).pcSig = s.pcSig := rfl
@[simp] theorem State.dfuAt_reqs (s : State) (a : Agent) (p : DfuPoint) : (s.dfuAt a p).reqs = s.reqs := rfl
@[simp] theorem State.dfuAt_nextReq (s : State) (a : Agent) (p : DfuPoint) : (s.dfuAt a p).nextReq = s.nextReq := rfl
@[simp] theorem State.dfuAt_up (s : State) (a : Agent) (p : DfuPoint) : (s.dfuAt a p).up = s.up := rfl
@[simp] theorem State.dfuAt_waiters (s : State) (a : Agent) (p : DfuPoint) : (s.dfuAt a p).waiters = s.waiters := rfl
@[simp] theorem State.dfuAt_replies (s : State) (a : Agent) (p : DfuPoint) : (s.dfuAt a p).replies = s.replies := rfl
@[simp] theorem State.dfuAt_handle (s : State) (a : Agent) (p : DfuPoint) : (s.dfuAt a p).handle = s.handle := rfl
@[simp] theorem State.dfuAt_dfuImage (s : State) (a : Agent) (p : DfuPoint) : (s.dfuAt a p).dfuImage = s.dfuImage := rfl
@[simp] theorem State.dfuAt_supErr (s : State) (a : Agent) (p : DfuPoint) : (s.dfuAt a p).supErr = s.supErr := rfl
@[simp] theorem State.dfuAt_supWake (s : State) (a : Agent) (p : DfuPoint) : (s.dfuAt a p).supWake = s.supWake := rfl
@[simp] theorem State.dfuAt_now (s : State) (a : Agent) (p : DfuPoint) : (s.dfuAt a p).now = s.now := rfl
@[simp] theorem State.dfuAt_result (s : State) (a : Agent) (p : DfuPoint) : (s.dfuAt a p).result = s.result := rfl
@[simp] theorem State.dfuAt_comp (s : State) (a : Agent) (p : DfuPoint) : (s.dfuAt a p).comp = s.comp := rfl
@[simp] theorem State.dfuAt_par (s : State) (a : Agent) (p : DfuPoint) : (s.dfuAt a p).par = s.par := rfl
@[simp] theorem State.dfuAt_cur (s : State) (a : Agent) (p : DfuPoint) : (s.dfuAt a p).cur = s.cur := rfl
@[simp] theorem State.dfuAt_opPort (s : State) (a : Agent) (p : DfuPoint) : (s.dfuAt a p).opPort = s.opPort := rfl
@[simp] theorem State.dfuAt_inp (s : State) (a : Agent) (p : DfuPoint) : (s.dfuAt a p).inp = s.inp := rfl
@[simp] theorem State.dfuAt_trace (s : State) (a : Agent) (p : DfuPoint) : (s.dfuAt a p).trace = s.trace := rfl

/-! `State.beginTick` -/

@[simp] theorem State.beginTick_cfg (s : State) : (s.beginTick).cfg = s.cfg := rfl
@[simp] theorem State.beginTick_fsm (s : State) : (s.beginTick).fsm = s.fsm := rfl
@[simp] theorem State.beginTick_t0 (s : State) : (s.beginTick).t0 = s.t0 := rfl
@[simp] theorem State.beginTick_step1Done (s : State) : (s.beginTick).step1Done = s.step1Done := rfl
@[simp] theorem State.beginTick_lastFed (s : State) : (s.beginTick).lastFed = s.lastFed := rfl
@[simp] theorem State.beginTick_busOpen (s : State) : (s.beginTick).busOpen = s.busOpen := rfl
@[simp] theorem State.beginTick_dialect (s : State) : (s.beginTick).dialect = s.dialect := rfl
@[simp] theorem State.beginTick_holder (s : State) : (s.beginTick).holder = s.holder := rfl
@[simp] theorem State.beginTick_measLast (s : State) : (s.beginTick).measLast = s.measLast := rfl
@[simp] theorem State.beginTick_intent (s : State) : (s.beginTick).intent = s.intent := rfl
@[simp] theorem State.beginTick_sigCancel (s : State) : (s.beginTick).sigCancel = s.sigCancel := rfl
@[simp] theorem State.beginTick_session (s : State) : (s.beginTick).session = s.session := rfl
@[simp] theorem State.beginTick_exitCode (s : State) : (s.beginTick).exitCode = s.exitCode := rfl
@[simp] theorem State.beginTick_pcSup (s : State) : (s.beginTick).pcSup = if s.sigCancel then .exiting else if s.fsm = .dead then .sleeping else .waitLock := rfl
@[simp] theorem State.beginTick_pcDfu (s : State) : (s.beginTick).pcDfu = s.pcDfu := rfl
@[simp] theorem State.beginTick_pcSig (s : State) : (s.beginTick).pcSig = s.pcSig := rfl
@[simp] theorem State.beginTick_reqs (s : State) : (s.beginTick).reqs = s.reqs := rfl
@[simp] theorem State.beginTick_nextReq (s : State) : (s.beginTick).nextReq = s.nextReq := rfl
@[simp] theorem State.beginTick_up (s : State) : (s.beginTick).up = s.up := rfl
@[simp] theorem State.beginTick_waiters (s : State) : (s.beginTick).waiters = s.waiters := rfl
@[simp] theorem State.beginTick_replies (s : State) : (s.beginTick).replies = s.replies := rfl
@[simp] theorem State.beginTick_handle (s : State) : (s.beginTick).handle = s.handle := rfl
@[simp] theorem State.beginTick_dfuImage (s : State) : (s.beginTick).dfuImage = s.dfuImage := rfl
@[simp] theorem State.beginTick_supErr (s : State) : (s.beginTick).supErr = s.supErr := rfl
@[simp] theorem State.beginTick_supWake (s : State) : (s.beginTick).supWake = none := rfl
@[simp] theorem State.beginTick_now (s : State) : (s.beginTick).now = s.now := rfl
@[simp] theorem State.beginTick_result (s : State) : (s.beginTick).result = s.result := rfl
@[simp] theorem State.beginTick_comp (s : State) : (s.beginTick).comp = s.comp := rfl
@[simp] theorem State.beginTick_par (s : State) : (s.beginTick).par = s.par := rfl
@[simp] theorem State.beginTick_cur (s : State) : (s.beginTick).cur = s.cur := rfl
@[simp] theorem State.beginTick_opPort (s : State) : (s.beginTick).opPort = s.opPort := rfl
@[simp] theorem State.beginTick_inp (s : State) : (s.beginTick).inp = s.inp := rfl
@[simp] theorem State.beginTick_trace (s : State) : (s.beginTick).trace = s.trace := rfl

/-! `State.markRunning` -/

@[simp] theorem State.markRunning_cfg (s : State) (k : Nat) : (s.markRunning k).cfg = s.cfg := rfl
@[simp] theorem State.markRunning_fsm (s : State) (k : Nat) : (s.markRunning k).fsm = s.fsm := rfl
@[simp] theorem State.markRunning_t0 (s : State) (k : Nat) : (s.markRunning k).t0 = s.t0 := rfl
@[simp] theorem State.markRunning_step1Done (s : State) (k : Nat) : (s.markRunning k).step1Done = s.step1Done := rfl
@[simp] theorem State.markRunning_lastFed (s : State) (k : Nat) : (s.markRunning k).lastFed = s.lastFed := rfl
@[simp] theorem State.markRunning_busOpen (s : State) (k : Nat) : (s.markRunning k).busOpen = s.busOpen := rfl
@[simp] theorem State.markRunning_dialect (s : State) (k : Nat) : (s.markRunning k).dialect = s.dialect := rfl
@[simp] theorem State.markRunning_holder (s : State) (k : Nat) : (s.markRunning k).holder = s.holder := rfl
@[simp] theorem State.markRunning_measLast (s : State) (k : Nat) : (s.markRunning k).measLast = s.measLast := rfl
@[simp] theorem State.markRunning_intent (s : State) (k : Nat) : (s.markRunning k).intent = s.intent := rfl
@[simp] theorem State.markRunning_sigCancel (s : State) (k : Nat) : (s.markRunning k).sigCancel = s.sigCancel := rfl
@[simp] theorem State.markRunning_session (s : State) (k : Nat) : (s.markRunning k).session = s.session := rfl
@[simp] theorem State.markRunning_exitCode (s : State) (k : Nat) : (s.markRunning k).exitCode = s.exitCode := rfl
@[simp] theorem State.markRunning_pcSup (s : State) (k : Nat) : (s.markRunning k).pcSup = s.pcSup := rfl
@[simp] theorem State.markRunning_pcDfu (s : State) (k : Nat) : (s.markRunning k).pcDfu = s.pcDfu := rfl
@[simp] theorem State.markRunning_pcSig (s : State) (k : Nat) : (s.markRunning k).pcSig = s.pcSig := rfl
@[simp] theorem State.markRunning_nextReq (s : State) (k : Nat) : (s.markRunning k).nextReq = s.nextReq := rfl
@[simp] theorem State.markRunning_up (s : State) (k : Nat) : (s.markRunning k).up = s.up := rfl
@[simp] theorem State.markRunning_waiters (s : State) (k : Nat) : (s.markRunning k).waiters = s.waiters := rfl
@[simp] theorem State.markRunning_replies (s : State) (k : Nat) : (s.markRunning k).replies = s.replies := rfl
@[simp] theorem State.markRunning_handle (s : State) (k : Nat) : (s.markRunning k).handle = s.handle := rfl
@[simp] theorem State.markRunning_dfuImage (s : State) (k : Nat) : (s.markRunning k).dfuImage = s.dfuImage := rfl
@[simp] theorem State.markRunning_supErr (s : State) (k : Nat) : (s.markRunning k).supErr = s.supErr := rfl
@[simp] theorem State.markRunning_supWake (s : State) (k : Nat) : (s.markRunning k).supWake = s.supWake := rfl
@[simp] theorem State.markRunning_now (s : State) (k : Nat) : (s.markRunning k).now = s.now := rfl
@[simp] theorem State.markRunning_result (s : State) (k : Nat) : (s.markRunning k).result = s.result := rfl
@[simp] theorem State.markRunning_comp (s : State) (k : Nat) : (s.markRunning k).comp = s.comp := rfl
@[simp] theorem State.markRunning_par (s : State) (k : Nat) : (s.markRunning k).par = s.par := rfl
@[simp] theorem State.markRunning_cur (s : State) (k : Nat) : (s.markRunning k).cur = s.cur := rfl
@[simp] theorem State.markRunning_opPort (s : State) (k : Nat) : (s.markRunning k).opPort = s.opPort := rfl
@[simp] theorem State.markRunning_inp (s : State) (k : Nat) : (s.markRunning k).inp = s.inp := rfl
@[simp] theorem State.markRunning_trace (s : State) (k : Nat) : (s.markRunning k).trace = s.trace := rfl

/-! `State.replyTo` -/

@[simp] theorem State.replyTo_cfg (s : State) (a : Agent) (r : Reply) : (s.replyTo a r).cfg = s.cfg := rfl
@[simp] theorem State.replyTo_fsm (s : State) (a : Agent) (r : Reply) : (s.replyTo a r).fsm = s.fsm := rfl
@[simp] theorem State.replyTo_t0 (s : State) (a : Agent) (r : Reply) : (s.replyTo a r).t0 = s.t0 := rfl
@[simp] theorem State.replyTo_step1Done (s : State) (a : Agent) (r : Reply) : (s.replyTo a r).step1Done = s.step1Done := rfl
@[simp] theorem State.replyTo_lastFed (s : State) (a : Agent) (r : Reply) : (s.replyTo a r).lastFed = s.lastFed := rfl
@[simp] theorem State.replyTo_busOpen (s : State) (a : Agent) (r : Reply) : (s.replyTo a r).busOpen = s.busOpen := rfl
@[simp] theorem State.replyTo_dialect (s : State) (a : Agent) (r : Reply) : (s.replyTo a r).dialect = s.dialect := rfl
@[simp] theorem State.replyTo_holder (s : State) (a : Agent) (r : Reply) : (s.replyTo a r).holder = s.holder := rfl
@[simp] theorem State.replyTo_measLast (s : State) (a : Agent) (r : Reply) : (s.replyTo a r).measLast = s.measLast := rfl
@[simp] theorem State.replyTo_intent (s : State) (a : Agent) (r : Reply) : (s.replyTo a r).intent = s.intent := rfl
@[simp] theorem State.replyTo_sigCancel (s : State) (a : Agent) (r : Reply) : (s.replyTo a r).sigCancel = s.sigCancel := rfl
@[simp] theorem State.replyTo_session (s : State) (a : Agent) (r : Reply) : (s.replyTo a r).session = s.session := rfl
@[simp] theorem State.replyTo_exitCode (s : State) (a : Agent) (r : Reply) : (s.replyTo a r).exitCode = s.exitCode := rfl
@[simp] theorem State.replyTo_pcSup (s : State) (a : Agent) (r : Reply) : (s.replyTo a r).pcSup = s.pcSup := rfl
@[simp] theorem State.replyTo_pcDfu (s : State) (a : Agent) (r : Reply) : (s.replyTo a r).pcDfu = s.pcDfu := rfl
@[simp] theorem State.replyTo_pcSig (s : State) (a : Agent) (r : Reply) : (s.replyTo a r).pcSig = s.pcSig := rfl
@[simp] theorem State.replyTo_nextReq (s : State) (a : Agent) (r : Reply) : (s.replyTo a r).nextReq = s.nextReq := rfl
@[simp] theorem State.replyTo_up (s : State) (a : Agent) (r : Reply) : (s.replyTo a r).up = s.up := rfl
@[simp] theorem State.replyTo_waiters (s : State) (a : Agent) (r : Reply) : (s.replyTo a r).waiters = s.waiters := rfl
@[simp] theorem State.replyTo_replies (s : State) (a : Agent) (r : Reply) : (s.replyTo a r).replies = s.replies := rfl
@[simp] theorem State.replyTo_handle (s : State) (a : Agent) (r : Reply) : (s.replyTo a r).handle = s.handle := rfl
@[simp] theorem State.replyTo_dfuImage (s : State) (a : Agent) (r : Reply) : (s.replyTo a r).dfuImage = s.dfuImage := rfl
@[simp] theorem State.replyTo_supErr (s : State) (a : Agent) (r : Reply) : (s.replyTo a r).supErr = s.supErr := rfl
@[simp] theorem State.replyTo_supWake (s : State) (a : Agent) (r : Reply) : (s.replyTo a r).supWake = s.supWake := rfl
@[simp] theorem State.replyTo_now (s : State) (a : Agent) (r : Reply) : (s.replyTo a r).now = s.now := rfl
@[simp] theorem State.replyTo_result (s : State) (a : Agent) (r : Reply) : (s.replyTo a r).result = s.result := rfl
@[simp] theorem State.replyTo_comp (s : State) (a : Agent) (r : Reply) : (s.replyTo a r).comp = s.comp := rfl
@[simp] theorem State.replyTo_par (s : State) (a : Agent) (r : Reply) : (s.replyTo a r).par = s.par := rfl
@[simp] theorem State.replyTo_cur (s : State) (a : Agent) (r : Reply) : (s.replyTo a r).cur = s.cur := rfl
@[simp] theorem State.replyTo_opPort (s : State) (a : Agent) (r : Reply) : (s.replyTo a r).opPort = s.opPort := rfl
@[simp] theorem State.replyTo_inp (s : State) (a : Agent) (r : Reply) : (s.replyTo a r).inp = s.inp := rfl
@[simp] theorem State.replyTo_trace (s : State) (a : Agent) (r : Reply) : (s.replyTo a r).trace = s.trace ++ [(s.now, .reply a r)] := rfl

/-! `State.gives` -/

@[simp] theorem State.gives_cfg (s : State) (v : Value) : (s.gives v).cfg = s.cfg := rfl
@[simp] theorem State.gives_fsm (s : State) (v : Value) : (s.gives v).fsm = s.fsm := rfl
@[simp] theorem State.gives_t0 (s : State) (v : Value) : (s.gives v).t0 = s.t0 := rfl
@[simp] theorem State.gives_step1Done (s : State) (v : Value) : (s.gives v).step1Done = s.step1Done := rfl
@[simp] theorem State.gives_lastFed (s : State) (v : Value) : (s.gives v).lastFed = s.lastFed := rfl
@[simp] theorem State.gives_busOpen (s : State) (v : Value) : (s.gives v).busOpen = s.busOpen := rfl
@[simp] theorem State.gives_dialect (s : State) (v : Value) : (s.gives v).dialect = s.dialect := rfl
@[simp] theorem State.gives_holder (s : State) (v : Value) : (s.gives v).holder = s.holder := rfl
@[simp] theorem State.gives_measLast (s : State) (v : Value) : (s.gives v).measLast = s.measLast := rfl
@[simp] theorem State.gives_intent (s : State) (v : Value) : (s.gives v).intent = s.intent := rfl
@[simp] theorem State.gives_sigCancel (s : State) (v : Value) : (s.gives v).sigCancel = s.sigCancel := rfl
@[simp] theorem State.gives_session (s : State) (v : Value) : (s.gives v).session = s.session := rfl
@[simp] theorem State.gives_exitCode (s : State) (v : Value) : (s.gives v).exitCode = s.exitCode := rfl
@[simp] theorem State.gives_pcSup (s : State) (v : Value) : (s.gives v).pcSup = s.pcSup := rfl
@[simp] theorem State.gives_pcDfu (s : State) (v : Value) : (s.gives v).pcDfu = s.pcDfu := rfl
@[simp] theorem State.gives_pcSig (s : State) (v : Value) : (s.gives v).pcSig = s.pcSig := rfl
@[simp] theorem State.gives_reqs (s : State) (v : Value) : (s.gives v).reqs = s.reqs := rfl
@[simp] theorem State.gives_nextReq (s : State) (v : Value) : (s.gives v).nextReq = s.nextReq := rfl
@[simp] theorem State.gives_up (s : State) (v : Value) : (s.gives v).up = s.up := rfl
@[simp] theorem State.gives_waiters (s : State) (v : Value) : (s.gives v).waiters = s.waiters := rfl
@[simp] theorem State.gives_replies (s : State) (v : Value) : (s.gives v).replies = s.replies := rfl
@[simp] theorem State.gives_handle (s : State) (v : Value) : (s.gives v).handle = s.handle := rfl
@[simp] theorem State.gives_dfuImage (s : State) (v : Value) : (s.gives v).dfuImage = s.dfuImage := rfl
@[simp] theorem State.gives_supErr (s : State) (v : Value) : (s.gives v).supErr = s.supErr := rfl
@[simp] theorem State.gives_supWake (s : State) (v : Value) : (s.gives v).supWake = s.supWake := rfl
@[simp] theorem State.gives_now (s : State) (v : Value) : (s.gives v).now = s.now := rfl
@[simp] theorem State.gives_result (s : State) (v : Value) : (s.gives v).result = some (.value v) := rfl
@[simp] theorem State.gives_comp (s : State) (v : Value) : (s.gives v).comp = s.comp := rfl
@[simp] theorem State.gives_par (s : State) (v : Value) : (s.gives v).par = s.par := rfl
@[simp] theorem State.gives_cur (s : State) (v : Value) : (s.gives v).cur = s.cur := rfl
@[simp] theorem State.gives_opPort (s : State) (v : Value) : (s.gives v).opPort = s.opPort := rfl
@[simp] theorem State.gives_inp (s : State) (v : Value) : (s.gives v).inp = s.inp := rfl
@[simp] theorem State.gives_trace (s : State) (v : Value) : (s.gives v).trace = s.trace := rfl

/-! `State.fails` -/

@[simp] theorem State.fails_cfg (s : State) (e : Err) : (s.fails e).cfg = s.cfg := rfl
@[simp] theorem State.fails_fsm (s : State) (e : Err) : (s.fails e).fsm = s.fsm := rfl
@[simp] theorem State.fails_t0 (s : State) (e : Err) : (s.fails e).t0 = s.t0 := rfl
@[simp] theorem State.fails_step1Done (s : State) (e : Err) : (s.fails e).step1Done = s.step1Done := rfl
@[simp] theorem State.fails_lastFed (s : State) (e : Err) : (s.fails e).lastFed = s.lastFed := rfl
@[simp] theorem State.fails_busOpen (s : State) (e : Err) : (s.fails e).busOpen = s.busOpen := rfl
@[simp] theorem State.fails_dialect (s : State) (e : Err) : (s.fails e).dialect = s.dialect := rfl
@[simp] theorem State.fails_holder (s : State) (e : Err) : (s.fails e).holder = s.holder := rfl
@[simp] theorem State.fails_measLast (s : State) (e : Err) : (s.fails e).measLast = s.measLast := rfl
@[simp] theorem State.fails_intent (s : State) (e : Err) : (s.fails e).intent = s.intent := rfl
@[simp] theorem State.fails_sigCancel (s : State) (e : Err) : (s.fails e).sigCancel = s.sigCancel := rfl
@[simp] theorem State.fails_session (s : State) (e : Err) : (s.fails e).session = s.session := rfl
@[simp] theorem State.fails_exitCode (s : State) (e : Err) : (s.fails e).exitCode = s.exitCode := rfl
@[simp] theorem State.fails_pcSup (s : State) (e : Err) : (s.fails e).pcSup = s.pcSup := rfl
@[simp] theorem State.fails_pcDfu (s : State) (e : Err) : (s.fails e).pcDfu = s.pcDfu := rfl
@[simp] theorem State.fails_pcSig (s : State) (e : Err) : (s.fails e).pcSig = s.pcSig := rfl
@[simp] theorem State.fails_reqs (s : State) (e : Err) : (s.fails e).reqs = s.reqs := rfl
@[simp] theorem State.fails_nextReq (s : State) (e : Err) : (s.fails e).nextReq = s.nextReq := rfl
@[simp] theorem State.fails_up (s : State) (e : Err) : (s.fails e).up = s.up := rfl
@[simp] theorem State.fails_waiters (s : State) (e : Err) : (s.fails e).waiters = s.waiters := rfl
@[simp] theorem State.fails_replies (s : State) (e : Err) : (s.fails e).replies = s.replies := rfl
@[simp] theorem State.fails_handle (s : State) (e : Err) : (s.fails e).handle = s.handle := rfl
@[simp] theorem State.fails_dfuImage (s : State) (e : Err) : (s.fails e).dfuImage = s.dfuImage := rfl
@[simp] theorem State.fails_supErr (s : State) (e : Err) : (s.fails e).supErr = s.supErr := rfl
@[simp] theorem State.fails_supWake (s : State) (e : Err) : (s.fails e).supWake = s.supWake := rfl
@[simp] theorem State.fails_now (s : State) (e : Err) : (s.fails e).now = s.now := rfl
@[simp] theorem State.fails_result (s : State) (e : Err) : (s.fails e).result = some (.error e) := rfl
@[simp] theorem State.fails_comp (s : State) (e : Err) : (s.fails e).comp = s.comp := rfl
@[simp] theorem State.fails_par (s : State) (e : Err) : (s.fails e).par = s.par := rfl
@[simp] theorem State.fails_cur (s : State) (e : Err) : (s.fails e).cur = s.cur := rfl
@[simp] theorem State.fails_opPort (s : State) (e : Err) : (s.fails e).opPort = s.opPort := rfl
@[simp] theorem State.fails_inp (s : State) (e : Err) : (s.fails e).inp = s.inp := rfl
@[simp] theorem State.fails_trace (s : State) (e : Err) : (s.fails e).trace = s.trace := rfl

/-! `State.answered` -/

@[simp] theorem State.answered_cfg (s : State) (r : Reply) : (s.answered r).cfg = s.cfg := rfl
@[simp] theorem State.answered_fsm (s : State) (r : Reply) : (s.answered r).fsm = s.fsm := rfl
@[simp] theorem State.answered_t0 (s : State) (r : Reply) : (s.answered r).t0 = s.t0 := rfl
@[simp] theorem State.answered_step1Done (s : State) (r : Reply) : (s.answered r).step1Done = s.step1Done := rfl
@[simp] theorem State.answered_lastFed (s : State) (r : Reply) : (s.answered r).lastFed = s.lastFed := rfl
@[simp] theorem State.answered_busOpen (s : State) (r : Reply) : (s.answered r).busOpen = s.busOpen := rfl
@[simp] theorem State.answered_dialect (s : State) (r : Reply) : (s.answered r).dialect = s.dialect := rfl
@[simp] theorem State.answered_holder (s : State) (r : Reply) : (s.answered r).holder = s.holder := rfl
@[simp] theorem State.answered_measLast (s : State) (r : Reply) : (s.answered r).measLast = s.measLast := rfl
@[simp] theorem State.answered_intent (s : State) (r : Reply) : (s.answered r).intent = s.intent := rfl
@[simp] theorem State.answered_sigCancel (s : State) (r : Reply) : (s.answered r).sigCancel = s.sigCancel := rfl
@[simp] theorem State.answered_session (s : State) (r : Reply) : (s.answered r).session = s.session := rfl
@[simp] theorem State.answered_exitCode (s : State) (r : Reply) : (s.answered r).exitCode = s.exitCode := rfl
@[simp] theorem State.answered_pcSup (s : State) (r : Reply) : (s.answered r).pcSup = s.pcSup := rfl
@[simp] theorem State.answered_pcDfu (s : State) (r : Reply) : (s.answered r).pcDfu = s.pcDfu := rfl
@[simp] theorem State.answered_pcSig (s : State) (r : Reply) : (s.answered r).pcSig = s.pcSig := rfl
@[simp] theorem State.answered_reqs (s : State) (r : Reply) : (s.answered r).reqs = s.reqs := rfl
@[simp] theorem State.answered_nextReq (s : State) (r : Reply) : (s.answered r).nextReq = s.nextReq := rfl
@[simp] theorem State.answered_up (s : State) (r : Reply) : (s.answered r).up = s.up := rfl
@[simp] theorem State.answered_waiters (s : State) (r : Reply) : (s.answered r).waiters = s.waiters := rfl
@[simp] theorem State.answered_replies (s : State) (r : Reply) : (s.answered r).replies = s.replies ++ [(s.cur, r)] := rfl
@[simp] theorem State.answered_handle (s : State) (r : Reply) : (s.answered r).handle = s.handle := rfl
@[simp] theorem State.answered_dfuImage (s : State) (r : Reply) : (s.answered r).dfuImage = s.dfuImage := rfl
@[simp] theorem State.answered_supErr (s : State) (r : Reply) : (s.answered r).supErr = s.supErr := rfl
@[simp] theorem State.answered_supWake (s : State) (r : Reply) : (s.answered r).supWake = s.supWake := rfl
@[simp] theorem State.answered_now (s : State) (r : Reply) : (s.answered r).now = s.now := rfl
@[simp] theorem State.answered_result (s : State) (r : Reply) : (s.answered r).result = some (.reply r) := rfl
@[simp] theorem State.answered_comp (s : State) (r : Reply) : (s.answered r).comp = s.comp := rfl
@[simp] theorem State.answered_par (s : State) (r : Reply) : (s.answered r).par = s.par := rfl
@[simp] theorem State.answered_cur (s : State) (r : Reply) : (s.answered r).cur = s.cur := rfl
@[simp] theorem State.answered_opPort (s : State) (r : Reply) : (s.answered r).opPort = s.opPort := rfl
@[simp] theorem State.answered_inp (s : State) (r : Reply) : (s.answered r).inp = s.inp := rfl
@[simp] theorem State.answered_trace (s : State) (r : Reply) : (s.answered r).trace = s.trace := rfl

/-! `State.powerCut` -/

@[simp] theorem State.powerCut_cfg (s : State) : (s.powerCut).cfg = Cfg.builtIn s.par := rfl
@[simp] theorem State.powerCut_fsm (s : State) : (s.powerCut).fsm = .start := rfl
@[simp] theorem State.powerCut_t0 (s : State) : (s.powerCut).t0 = none := rfl
@[simp] theorem State.powerCut_step1Done (s : State) : (s.powerCut).step1Done = false := rfl
@[simp] theorem State.powerCut_lastFed (s : State) : (s.powerCut).lastFed = none := rfl
@[simp] theorem State.powerCut_busOpen (s : State) : (s.powerCut).busOpen = false := rfl
@[simp] theorem State.powerCut_dialect (s : State) : (s.powerCut).dialect = none := rfl
@[simp] theorem State.powerCut_holder (s : State) : (s.powerCut).holder = none := rfl
@[simp] theorem State.powerCut_measLast (s : State) : (s.powerCut).measLast = none := rfl
@[simp] theorem State.powerCut_intent (s : State) : (s.powerCut).intent = false := rfl
@[simp] theorem State.powerCut_sigCancel (s : State) : (s.powerCut).sigCancel = false := rfl
@[simp] theorem State.powerCut_session (s : State) : (s.powerCut).session = none := rfl
@[simp] theorem State.powerCut_exitCode (s : State) : (s.powerCut).exitCode = none := rfl
@[simp] theorem State.powerCut_pcSup (s : State) : (s.powerCut).pcSup = .init := rfl
@[simp] theorem State.powerCut_pcDfu (s : State) : (s.powerCut).pcDfu = [] := rfl
@[simp] theorem State.powerCut_pcSig (s : State) : (s.powerCut).pcSig = .idle := rfl
@[simp] theorem State.powerCut_reqs (s : State) : (s.powerCut).reqs = [] := rfl
@[simp] theorem State.powerCut_nextReq (s : State) : (s.powerCut).nextReq = 0 := rfl
@[simp] theorem State.powerCut_up (s : State) : (s.powerCut).up = false := rfl
@[simp] theorem State.powerCut_waiters (s : State) : (s.powerCut).waiters = [] := rfl
@[simp] theorem State.powerCut_replies (s : State) : (s.powerCut).replies = [] := rfl
@[simp] theorem State.powerCut_handle (s : State) : (s.powerCut).handle = none := rfl
@[simp] theorem State.powerCut_dfuImage (s : State) : (s.powerCut).dfuImage = [] := rfl
@[simp] theorem State.powerCut_supErr (s : State) : (s.powerCut).supErr = none := rfl
@[simp] theorem State.powerCut_supWake (s : State) : (s.powerCut).supWake = none := rfl
@[simp] theorem State.powerCut_now (s : State) : (s.powerCut).now = s.now := rfl
@[simp] theorem State.powerCut_result (s : State) : (s.powerCut).result = none := rfl
@[simp] theorem State.powerCut_comp (s : State) : (s.powerCut).comp = { s.comp with wdog := .unknown } := rfl
@[simp] theorem State.powerCut_par (s : State) : (s.powerCut).par = s.par := rfl
@[simp] theorem State.powerCut_cur (s : State) : (s.powerCut).cur = .supervisor := rfl
@[simp] theorem State.powerCut_opPort (s : State) : (s.powerCut).opPort = s.opPort := rfl
@[simp] theorem State.powerCut_inp (s : State) : (s.powerCut).inp = s.inp := rfl
@[simp] theorem State.powerCut_trace (s : State) : (s.powerCut).trace = s.trace ++ [(s.now, .powerCut)] := rfl

end Sys2Proof.Machine
end

