-- ==== Sys2Proof/Laws/Acts.lean ====
section
/-! SUPPORT. What a suspension changes: the clock, the configuration, the signal's latch, the requests with their waits, replies and engines, the supervisor's begun ticks, the draws they take and the trace, and nothing else. -/

namespace Sys2Proof.Machine

/-- `u` is `s` but for what can land at a suspension point. -/
def State.around (s u : State) : Prop :=
  u = { s with
    cfg := u.cfg, sigCancel := u.sigCancel, pcSig := u.pcSig, pcSup := u.pcSup, supWake := u.supWake, pcDfu := u.pcDfu,
    reqs := u.reqs, nextReq := u.nextReq, waiters := u.waiters, replies := u.replies, now := u.now, inp := u.inp,
    trace := u.trace }

theorem State.around_refl (s : State) : s.around s := rfl

theorem State.around_trans {s t u : State} (h : s.around t) (g : t.around u) : s.around u := by
  unfold State.around at *
  rw [g, h]

/-! The draws. -/

/-- What the draw of a lateness changes. -/
theorem popLate_around (s : State) : ∃ l t, popLate s = .ok l t ∧ s.around t ∧ t.sigCancel = s.sigCancel ∧
    t.trace = s.trace ∧ t.waiters = s.waiters ∧ t.now = s.now ∧ t.pcSup = s.pcSup := by
  unfold popLate
  split
  · exact ⟨_, _, rfl, rfl, rfl, rfl, rfl, rfl, rfl⟩
  · exact ⟨_, _, rfl, rfl, rfl, rfl, rfl, rfl, rfl⟩

/-- What the draw of a wall-clock time changes. -/
theorem popWall_around (s : State) : ∃ h t, popWall s = .ok h t ∧ s.around t ∧ t.sigCancel = s.sigCancel ∧
    t.trace = s.trace ∧ t.waiters = s.waiters ∧ t.now = s.now ∧ t.pcSup = s.pcSup := by
  unfold popWall
  split
  · exact ⟨_, _, rfl, rfl, rfl, rfl, rfl, rfl, rfl⟩
  · exact ⟨_, _, rfl, rfl, rfl, rfl, rfl, rfl, rfl⟩

/-! Each run of another agent: what it leaves alone, that it only adds to the trace, keeps a latched signal and the clock. -/

/-- What a run of another agent keeps. -/
structure State.ran (s u : State) : Prop where
  around : s.around u
  trace : ∃ es, u.trace = s.trace ++ es
  signal : s.sigCancel = true → u.sigCancel = true
  waiters : ∃ ws, u.waiters = s.waiters ++ ws
  now : s.now ≤ u.now

theorem State.ran_refl (s : State) : s.ran s :=
  ⟨s.around_refl, ⟨[], by simp⟩, id, ⟨[], by simp⟩, Nat.le_refl _⟩

theorem State.ran_trans {s t u : State} (h : s.ran t) (g : t.ran u) : s.ran u := by
  obtain ⟨e1, h1⟩ := h.trace
  obtain ⟨e2, h2⟩ := g.trace
  obtain ⟨w1, k1⟩ := h.waiters
  obtain ⟨w2, k2⟩ := g.waiters
  exact ⟨State.around_trans h.around g.around, ⟨e1 ++ e2, by rw [h2, h1, List.append_assoc]⟩, fun x => g.signal (h.signal x),
    ⟨w1 ++ w2, by rw [k2, k1, List.append_assoc]⟩, Nat.le_trans h.now g.now⟩

theorem State.ran_arm (s : State) : s.ran s.arm := by
  obtain ⟨l, t, h, ha, hs, ht, hw, hn, hp⟩ := popLate_around s
  unfold State.arm
  split
  · rw [h]
    refine ⟨?_, ⟨[], by simp [ht]⟩, fun x => by simp [hs, x], ⟨[], by simp [hw]⟩, by simp [hn]⟩
    unfold State.around at *
    rw [ha]
  · exact s.ran_refl

theorem State.ran_beginTick (s : State) : s.ran s.beginTick :=
  ⟨rfl, ⟨[], by simp⟩, id, ⟨[], by simp⟩, Nat.le_refl _⟩

theorem State.ran_park (s : State) (a : Agent) (h : Hold) : s.ran (s.park a h) :=
  ⟨rfl, ⟨[], by simp⟩, id, ⟨_, rfl⟩, Nat.le_refl _⟩

theorem State.ran_post (s : State) (a : Agent) (r : Reply) : s.ran (s.post a r) :=
  ⟨rfl, ⟨[], by simp⟩, id, ⟨[], by simp⟩, Nat.le_refl _⟩

theorem State.ran_markRunning (s : State) (k : Nat) : s.ran (s.markRunning k) :=
  ⟨rfl, ⟨[], by simp⟩, id, ⟨[], by simp⟩, Nat.le_refl _⟩

theorem State.ran_atValidate (s : State) (i : Instr) (k : Nat) : s.ran (s.atValidate i k) := by
  unfold State.atValidate
  split
  · exact ⟨rfl, ⟨[], by simp⟩, id, ⟨[], by simp⟩, Nat.le_refl _⟩
  · exact s.ran_refl

theorem State.ran_requestHold (s : State) (i : Instr) {h : Hold} {t : State} (e : s.requestHold i = some (h, t)) :
    s.ran t := by
  unfold State.requestHold at e
  split at e
  case h_6 w =>
    obtain ⟨x, u, hx, ha, hs, ht, hw, hn, hp⟩ := popWall_around s
    rw [hx] at e
    cases e
    exact ⟨ha, ⟨[], by simp [ht]⟩, fun x => by simp [hs, x], ⟨[], by simp [hw]⟩, by simp [hn]⟩
  all_goals cases e
  all_goals exact s.ran_refl

theorem State.requestHold_now (s : State) (i : Instr) {h : Hold} {t : State} (e : s.requestHold i = some (h, t)) :
    t.now = s.now := by
  unfold State.requestHold at e
  split at e
  case h_6 w =>
    obtain ⟨x, u, hx, ha, hs, ht, hw, hn, hp⟩ := popWall_around s
    rw [hx] at e
    cases e
    exact hn
  all_goals cases e
  all_goals rfl

@[simp] theorem State.atValidate_now (s : State) (i : Instr) (k : Nat) : (s.atValidate i k).now = s.now := by
  unfold State.atValidate
  split <;> rfl

theorem State.ran_send (s : State) (a : Agent) : s.ran (s.send a) := by
  unfold State.send
  split
  · exact s.ran_refl
  · exact ⟨rfl, ⟨_, rfl⟩, id, ⟨[], by simp⟩, Nat.le_refl _⟩

theorem State.ran_wake (s : State) : s.ran s.wake := by
  unfold State.wake
  split
  · exact State.ran_trans s.ran_beginTick (State.ran_park _ _ _)
  · exact State.ran_trans s.ran_beginTick (State.ran_arm _)

theorem State.ran_cfg (s : State) (c : Cfg) : s.ran { s with cfg := c } :=
  ⟨rfl, ⟨[], by simp⟩, id, ⟨[], by simp⟩, Nat.le_refl _⟩

theorem State.ran_start (s : State) (q : Request) : s.ran (s.start q) := by
  unfold State.start
  split
  · exact State.ran_trans (s.ran_markRunning _) (State.ran_post _ _ _)
  · split
    · exact State.ran_trans (State.ran_trans (State.ran_trans (s.ran_cfg _) (State.ran_atValidate _ _ _))
        (State.ran_markRunning _ _)) (State.ran_post _ _ _)
    · split
      · exact s.ran_refl
      · split
        · exact State.ran_trans (State.ran_trans (State.ran_trans (s.ran_atValidate _ _)
            (State.ran_requestHold _ _ ‹_›)) (State.ran_markRunning _ _)) (State.ran_park _ _ _)
        · exact s.ran_refl

theorem State.ran_serve (s : State) (k : Nat) : s.ran (s.serve k) := by
  unfold State.serve
  split
  · exact s.ran_refl
  · split
    · exact s.ran_send _
    · split
      · exact s.ran_refl
      · exact s.ran_start _

theorem State.ran_act (s : State) (a : EnvAct) : s.ran (s.act a) := by
  cases a with
  | signal k => exact ⟨rfl, ⟨_, rfl⟩, fun _ => rfl, ⟨[], by simp [State.act]⟩, Nat.le_refl _⟩
  | request w =>
    simp only [State.act]
    split
    · exact ⟨rfl, ⟨_, rfl⟩, id, ⟨[], by simp⟩, Nat.le_refl _⟩
    · exact s.ran_refl
  | serve k => exact s.ran_serve k
  | wake =>
    simp only [State.act]
    split
    · split
      · exact s.ran_wake
      · exact s.ran_refl
    · exact s.ran_refl

theorem State.ran_at (s : State) {n : Nat} (h : s.now ≤ n) : s.ran { s with now := n } :=
  ⟨rfl, ⟨[], by simp⟩, id, ⟨[], by simp⟩, h⟩

theorem State.ran_wakes (s : State) (till k : Nat) : s.ran (s.wakes till k) := by
  induction k generalizing s with
  | zero => exact s.ran_refl
  | succ k ih =>
    unfold State.wakes
    split
    · exact s.ran_refl
    · split
      · exact State.ran_trans (State.ran_trans (s.ran_at (Nat.le_max_left _ _)) (State.ran_wake _)) (ih _)
      · exact s.ran_refl

/-- Arming the sleep takes no time. -/
@[simp] theorem State.arm_now (s : State) : s.arm.now = s.now := by
  obtain ⟨l, t, h, ha, hs, ht, hw, hn, hp⟩ := popLate_around s
  unfold State.arm
  split
  · simp [h, hn]
  · rfl

/-- Beginning a tick takes no time. -/
@[simp] theorem State.wake_now (s : State) : s.wake.now = s.now := by
  unfold State.wake
  split <;> simp

/-- The ticks that begin on the way begin before its end. -/
theorem State.wakes_now_le (s : State) (till k : Nat) (h : s.now ≤ till) : (s.wakes till k).now ≤ till := by
  induction k generalizing s with
  | zero => exact h
  | succ k ih =>
    unfold State.wakes
    split
    · exact h
    · split
      · exact ih _ (by simp only [State.wake_now]; omega)
      · exact h

theorem State.ran_passTo (s : State) (till : Nat) (h : s.now ≤ till) : s.ran (s.passTo till) :=
  State.ran_trans (s.ran_wakes till _) (State.ran_at _ (s.wakes_now_le till _ h))

@[simp] theorem State.passTo_now (s : State) (till : Nat) : (s.passTo till).now = till := rfl

/-- What passing time leaves alone. -/
theorem State.passTo_around (s : State) (till : Nat) : s.around (s.passTo till) := by
  have h := (s.ran_wakes till (till - s.now)).around
  unfold State.around at h
  unfold State.around State.passTo
  rw [h]

/-- An arrival takes no time. -/
@[simp] theorem State.act_now (s : State) (a : EnvAct) : (s.act a).now = s.now := by
  cases a with
  | signal k => rfl
  | request w =>
    simp only [State.act]
    split <;> rfl
  | serve k =>
    simp only [State.act, State.serve]
    split
    · rfl
    · split
      · unfold State.send
        split <;> rfl
      · split
        · rfl
        · unfold State.start
          split
          · rfl
          · split
            · simp
            · split
              · rfl
              · split
                · simp [State.requestHold_now _ _ ‹_›]
                · rfl
  | wake =>
    simp only [State.act]
    split
    · split
      · simp
      · rfl
    · rfl

/-- What a suspension keeps. -/
theorem State.ran_elapse (s : State) (till : Nat) (as : List Arrival) (h : s.now ≤ till) :
    s.ran (s.elapse till as) := by
  induction as generalizing s with
  | nil => exact s.ran_passTo till h
  | cons a as ih =>
    unfold State.elapse
    refine State.ran_trans (State.ran_trans (s.ran_passTo _ (by omega)) (State.ran_act _ _)) (ih _ ?_)
    simp only [State.act_now, State.passTo_now]
    omega

/-- A suspension ends in its time. -/
@[simp] theorem State.elapse_now (s : State) (till : Nat) (as : List Arrival) : (s.elapse till as).now = till := by
  induction as generalizing s with
  | nil => rfl
  | cons a as ih => exact ih _

/-- What a suspension leaves alone, whenever it ends. -/
theorem State.elapse_around (s : State) (till : Nat) (as : List Arrival) : s.around (s.elapse till as) := by
  induction as generalizing s with
  | nil => exact s.passTo_around till
  | cons a as ih =>
    unfold State.elapse
    exact State.around_trans (State.around_trans (s.passTo_around _)
      (State.ran_act (s.passTo _) a.act).around) (ih _)

@[simp] theorem State.elapse_fsm (s : State) (till : Nat) (as : List Arrival) : (s.elapse till as).fsm = s.fsm := by
  rw [s.elapse_around till as]

@[simp] theorem State.elapse_t0 (s : State) (till : Nat) (as : List Arrival) : (s.elapse till as).t0 = s.t0 := by
  rw [s.elapse_around till as]

@[simp] theorem State.elapse_step1Done (s : State) (till : Nat) (as : List Arrival) : (s.elapse till as).step1Done = s.step1Done := by
  rw [s.elapse_around till as]

@[simp] theorem State.elapse_lastFed (s : State) (till : Nat) (as : List Arrival) : (s.elapse till as).lastFed = s.lastFed := by
  rw [s.elapse_around till as]

@[simp] theorem State.elapse_busOpen (s : State) (till : Nat) (as : List Arrival) : (s.elapse till as).busOpen = s.busOpen := by
  rw [s.elapse_around till as]

@[simp] theorem State.elapse_dialect (s : State) (till : Nat) (as : List Arrival) : (s.elapse till as).dialect = s.dialect := by
  rw [s.elapse_around till as]

@[simp] theorem State.elapse_holder (s : State) (till : Nat) (as : List Arrival) : (s.elapse till as).holder = s.holder := by
  rw [s.elapse_around till as]

@[simp] theorem State.elapse_measLast (s : State) (till : Nat) (as : List Arrival) : (s.elapse till as).measLast = s.measLast := by
  rw [s.elapse_around till as]

@[simp] theorem State.elapse_intent (s : State) (till : Nat) (as : List Arrival) : (s.elapse till as).intent = s.intent := by
  rw [s.elapse_around till as]

@[simp] theorem State.elapse_session (s : State) (till : Nat) (as : List Arrival) : (s.elapse till as).session = s.session := by
  rw [s.elapse_around till as]

@[simp] theorem State.elapse_exitCode (s : State) (till : Nat) (as : List Arrival) : (s.elapse till as).exitCode = s.exitCode := by
  rw [s.elapse_around till as]

@[simp] theorem State.elapse_up (s : State) (till : Nat) (as : List Arrival) : (s.elapse till as).up = s.up := by
  rw [s.elapse_around till as]

@[simp] theorem State.elapse_handle (s : State) (till : Nat) (as : List Arrival) : (s.elapse till as).handle = s.handle := by
  rw [s.elapse_around till as]

@[simp] theorem State.elapse_dfuImage (s : State) (till : Nat) (as : List Arrival) : (s.elapse till as).dfuImage = s.dfuImage := by
  rw [s.elapse_around till as]

@[simp] theorem State.elapse_supErr (s : State) (till : Nat) (as : List Arrival) : (s.elapse till as).supErr = s.supErr := by
  rw [s.elapse_around till as]

@[simp] theorem State.elapse_result (s : State) (till : Nat) (as : List Arrival) : (s.elapse till as).result = s.result := by
  rw [s.elapse_around till as]

@[simp] theorem State.elapse_comp (s : State) (till : Nat) (as : List Arrival) : (s.elapse till as).comp = s.comp := by
  rw [s.elapse_around till as]

@[simp] theorem State.elapse_par (s : State) (till : Nat) (as : List Arrival) : (s.elapse till as).par = s.par := by
  rw [s.elapse_around till as]

@[simp] theorem State.elapse_cur (s : State) (till : Nat) (as : List Arrival) : (s.elapse till as).cur = s.cur := by
  rw [s.elapse_around till as]

@[simp] theorem State.elapse_opPort (s : State) (till : Nat) (as : List Arrival) : (s.elapse till as).opPort = s.opPort := by
  rw [s.elapse_around till as]

/-- A suspension in which nothing lands and no tick of the supervisor can begin only moves the clock. -/
theorem State.elapse_quiet (s : State) (till : Nat) (h : s.supDue = none) :
    s.elapse till [] = { s with now := till } := by
  unfold State.elapse State.passTo
  cases till - s.now with
  | zero => rfl
  | succ k => unfold State.wakes; rw [h]

end Sys2Proof.Machine
end

