-- ==== Sys2Proof/Laws/Memory.lean ====
section
/-! SUPPORT. The companion's known registers: the canonical form is kept by every memory operation; a read after a write gives what was written and leaves every other address alone. -/

namespace Sys2Proof.Machine

/-- A memory above a bound is above a lower one. -/
theorem Memory.risesFrom_none {m : Memory} {a : Nat} (h : Memory.risesFrom (some a) m = true) :
    Memory.risesFrom none m = true := by
  cases m with
  | nil => rfl
  | cons c m =>
    simp only [Memory.risesFrom, Bool.and_eq_true] at h ⊢
    exact h.2

/-- The bound may be lowered. -/
theorem Memory.risesFrom_mono {m : Memory} {a b : Nat} (hab : a ≤ b) (h : Memory.risesFrom (some b) m = true) :
    Memory.risesFrom (some a) m = true := by
  cases m with
  | nil => rfl
  | cons c m =>
    simp only [Memory.risesFrom, Bool.and_eq_true, decide_eq_true_eq] at h ⊢
    exact ⟨by omega, h.2⟩

/-- Writing above the bound keeps the form. -/
theorem Memory.risesFrom_put {m : Memory} {lo a : Nat} {v : Byte} (hlo : lo < a)
    (h : Memory.risesFrom (some lo) m = true) : Memory.risesFrom (some lo) (Memory.put m a v) = true := by
  induction m generalizing lo with
  | nil => simpa [Memory.put, Memory.risesFrom] using hlo
  | cons c m ih =>
    obtain ⟨b, w⟩ := c
    simp only [Memory.risesFrom, Bool.and_eq_true, decide_eq_true_eq] at h
    unfold Memory.put
    split
    · simp only [Memory.risesFrom, Bool.and_eq_true, decide_eq_true_eq]
      exact ⟨hlo, by assumption, h.2⟩
    · split
      · subst_vars
        simp only [Memory.risesFrom, Bool.and_eq_true, decide_eq_true_eq]
        exact ⟨hlo, h.2⟩
      · simp only [Memory.risesFrom, Bool.and_eq_true, decide_eq_true_eq]
        exact ⟨h.1, ih (by omega) h.2⟩

/-- A write keeps the canonical form. -/
theorem Memory.wf_put {m : Memory} (a : Nat) (v : Byte) (h : m.wf = true) : (Memory.put m a v).wf = true := by
  cases m with
  | nil => rfl
  | cons c m =>
    obtain ⟨b, w⟩ := c
    unfold Memory.wf at h ⊢
    simp only [Memory.risesFrom] at h
    unfold Memory.put
    split
    · simp only [Memory.risesFrom, Bool.and_eq_true, decide_eq_true_eq]
      exact ⟨by assumption, h⟩
    · split
      · subst_vars
        simpa [Memory.risesFrom] using h
      · simp only [Memory.risesFrom]
        exact Memory.risesFrom_put (by omega) h

/-- Forgetting keeps the form above a bound. -/
theorem Memory.risesFrom_forget {m : Memory} {lo a : Nat} (h : Memory.risesFrom (some lo) m = true) :
    Memory.risesFrom (some lo) (Memory.forget m a) = true := by
  induction m generalizing lo with
  | nil => rfl
  | cons c m ih =>
    obtain ⟨b, w⟩ := c
    simp only [Memory.risesFrom, Bool.and_eq_true, decide_eq_true_eq] at h
    unfold Memory.forget
    split
    · exact Memory.risesFrom_mono (by omega) h.2
    · simp only [Memory.risesFrom, Bool.and_eq_true, decide_eq_true_eq]
      exact ⟨h.1, ih h.2⟩

/-- Forgetting keeps the canonical form. -/
theorem Memory.wf_forget {m : Memory} (a : Nat) (h : m.wf = true) : (Memory.forget m a).wf = true := by
  cases m with
  | nil => rfl
  | cons c m =>
    obtain ⟨b, w⟩ := c
    unfold Memory.wf at h ⊢
    simp only [Memory.risesFrom] at h
    unfold Memory.forget
    split
    · exact Memory.risesFrom_none h
    · simp only [Memory.risesFrom]
      exact Memory.risesFrom_forget h

/-- A write attempt keeps the canonical form. -/
theorem wf_noteWrite {m : Memory} (r : Byte) (data : List Byte) (ok : Bool) (h : m.wf = true) :
    (noteWrite m r data ok).wf = true := by
  unfold noteWrite
  split
  · split
    · exact Memory.wf_put _ _ h
    · exact Memory.wf_forget _ h
  · exact h

/-- The reset memory has the canonical form. -/
theorem wf_reset : State.reset.comp.mem.wf = true := rfl

/-- A read after a write to the same address gives the byte written. -/
@[simp] theorem Memory.byteAt_put_same (m : Memory) (a : Nat) (v : Byte) : (Memory.put m a v).byteAt a = some v := by
  induction m with
  | nil => simp [Memory.put, Memory.byteAt]
  | cons c m ih =>
    obtain ⟨b, w⟩ := c
    unfold Memory.put
    split
    · simp [Memory.byteAt]
    · split
      · simp [Memory.byteAt]
      · simp only [Memory.byteAt]
        rw [if_neg (by assumption)]
        exact ih

/-- A write leaves every other address alone. -/
theorem Memory.byteAt_put_other (m : Memory) {a b : Nat} (v : Byte) (h : b ≠ a) :
    (Memory.put m a v).byteAt b = m.byteAt b := by
  induction m with
  | nil => simp [Memory.put, Memory.byteAt, h]
  | cons c m ih =>
    obtain ⟨d, w⟩ := c
    unfold Memory.put
    split
    · simp [Memory.byteAt, h]
    · split
      · subst_vars
        simp [Memory.byteAt, h]
      · simp only [Memory.byteAt]
        rw [ih]

/-- Forgetting leaves every other address alone. -/
theorem Memory.byteAt_forget_other (m : Memory) {a b : Nat} (h : b ≠ a) :
    (Memory.forget m a).byteAt b = m.byteAt b := by
  induction m with
  | nil => rfl
  | cons c m ih =>
    obtain ⟨d, w⟩ := c
    unfold Memory.forget
    split
    · subst_vars
      simp [Memory.byteAt, h]
    · simp only [Memory.byteAt]
      rw [ih]

/-- A write attempt leaves every other register alone. -/
theorem byteAt_noteWrite_other (m : Memory) (r : Byte) (data : List Byte) (ok : Bool) {a : Nat} (h : a ≠ r.toNat) :
    (noteWrite m r data ok).byteAt a = m.byteAt a := by
  unfold noteWrite
  split
  · split
    · exact Memory.byteAt_put_other m _ h
    · exact Memory.byteAt_forget_other m h
  · rfl

end Sys2Proof.Machine
end

