-- ==== Sys2Proof/Laws/Ops.lean ====
section
/-! SUPPORT. For each shared operation, once, all it can do; callers cite these and never unfold the operation. -/

namespace Sys2Proof.Machine

/-! Sequencing. -/

/-- An operation that goes on, then the next. -/
theorem Op.bind_ok {α β : Type} {x : Op α} {f : α → Op β} {s t : State} {a : α} (h : x s = .ok a t) :
    (x >>= f) s = f a t := by
  simp [bind, EStateM.bind, h]

/-- An operation that ends early ends the sequence. -/
theorem Op.bind_error {α β : Type} {x : Op α} {f : α → Op β} {s t : State} {e : Exc} (h : x s = .error e t) :
    (x >>= f) s = .error e t := by
  simp [bind, EStateM.bind, h]

/-- A sequence that goes on went on at its first operation. -/
theorem Op.bind_ok_inv {α β : Type} {x : Op α} {f : α → Op β} {s u : State} {b : β} (h : (x >>= f) s = .ok b u) :
    ∃ a t, x s = .ok a t ∧ f a t = .ok b u := by
  simp only [bind, EStateM.bind] at h
  split at h
  · exact ⟨_, _, ‹_›, h⟩
  · cases h

/-- A sequence that ends early did so at its first operation or after it. -/
theorem Op.bind_error_inv {α β : Type} {x : Op α} {f : α → Op β} {s u : State} {e : Exc}
    (h : (x >>= f) s = .error e u) : x s = .error e u ∨ ∃ a t, x s = .ok a t ∧ f a t = .error e u := by
  simp only [bind, EStateM.bind] at h
  split at h
  · exact .inr ⟨_, _, ‹_›, h⟩
  · cases h
    exact .inl ‹_›

@[simp] theorem Op.pure_run {α : Type} (a : α) (s : State) : (pure a : Op α) s = .ok a s := rfl

@[simp] theorem Op.get_run (s : State) : (get : Op State) s = .ok s s := rfl

@[simp] theorem Op.set_run (s t : State) : (set t : Op PUnit) s = .ok ⟨⟩ t := rfl

@[simp] theorem Op.modify_run (f : State → State) (s : State) : (modify f : Op PUnit) s = .ok ⟨⟩ (f s) := rfl

@[simp] theorem raise_run {α : Type} (e : Err) (s : State) : (raise e : Op α) s = .error (.raise e) s := rfl

@[simp] theorem stop_run {α : Type} (f : Fault) (s : State) : (stop f : Op α) s = .error (.stop f) s := rfl

@[simp] theorem emit_run (e : Event) (s : State) : emit e s = .ok () (s.emit e) := rfl

@[simp] theorem clock_run (s : State) : clock s = .ok s.now s := rfl

@[simp] theorem setSup_run (p : SupPoint) (s : State) : setSup p s = .ok () { s with pcSup := p } := rfl

/-- A control point set is the one found. -/
@[simp] theorem setPoint_lookup_self (l : List (Agent × DfuPoint)) (a : Agent) (p : DfuPoint) :
    (setPoint l a p).lookup a = some p := by
  induction l with
  | nil => simp [setPoint]
  | cons x xs ih =>
    unfold setPoint
    split
    · simp
    · next h => rw [List.lookup_cons, beq_false_of_ne (Ne.symm h)]; exact ih

/-- The control points of other agents stay. -/
theorem setPoint_lookup_ne (l : List (Agent × DfuPoint)) {a b : Agent} (p : DfuPoint) (h : b ≠ a) :
    (setPoint l a p).lookup b = l.lookup b := by
  induction l with
  | nil => simp [setPoint, List.lookup_cons, beq_false_of_ne h]
  | cons x xs ih =>
    unfold setPoint
    split
    · next hc => rw [List.lookup_cons, List.lookup_cons, beq_false_of_ne h, hc, beq_false_of_ne h]
    · rw [List.lookup_cons, List.lookup_cons, ih]

@[simp] theorem setDfu_run (p : DfuPoint) (s : State) : setDfu p s = .ok () (s.dfuAt s.cur p) := rfl

@[simp] theorem replyWith_run (r : Reply) (s : State) : replyWith r s = .ok () (s.post s.cur r) := rfl

/-! Handlers. -/

/-- `attempt` of an operation that goes on. -/
theorem attempt_ok {α : Type} {x : Op α} {s t : State} {a : α} (h : x s = .ok a t) : attempt x s = .ok (.ok a) t := by
  simp [attempt, h]

/-- `attempt` of an operation that raises. -/
theorem attempt_raise {α : Type} {x : Op α} {s t : State} {e : Err} (h : x s = .error (.raise e) t) :
    attempt x s = .ok (.error e) t := by
  simp [attempt, h]

/-- `attempt` lets through every early end that is no raised error. -/
theorem attempt_error {α : Type} {x : Op α} {s t : State} {e : Exc} (h : x s = .error e t) (hr : ∀ r, e ≠ .raise r) :
    attempt x s = .error e t := by
  cases e with
  | raise r => exact absurd rfl (hr r)
  | wait => simp [attempt, h]
  | cut => simp [attempt, h]
  | stop f => simp [attempt, h]

/-- All `attempt` can do. -/
theorem attempt_cases {α : Type} (x : Op α) (s : State) :
    (∃ a t, x s = .ok a t ∧ attempt x s = .ok (.ok a) t) ∨
      (∃ e t, x s = .error (.raise e) t ∧ attempt x s = .ok (.error e) t) ∨
      ∃ e t, x s = .error e t ∧ (∀ r, e ≠ .raise r) ∧ attempt x s = .error e t := by
  cases h : x s with
  | ok a t => exact .inl ⟨a, t, rfl, attempt_ok h⟩
  | error e t =>
    cases e with
    | raise r => exact .inr (.inl ⟨r, t, rfl, attempt_raise h⟩)
    | wait => exact .inr (.inr ⟨_, t, rfl, by simp, attempt_error h (by simp)⟩)
    | cut => exact .inr (.inr ⟨_, t, rfl, by simp, attempt_error h (by simp)⟩)
    | stop f => exact .inr (.inr ⟨_, t, rfl, by simp, attempt_error h (by simp)⟩)

/-- `attemptTransport` of an operation that goes on. -/
theorem attemptTransport_ok {α : Type} {x : Op α} {s t : State} {a : α} (h : x s = .ok a t) :
    attemptTransport x s = .ok (.ok a) t := by
  unfold attemptTransport
  rw [Op.bind_ok (attempt_ok h)]
  rfl

/-- `attemptTransport` of an operation that raises a transport error. -/
theorem attemptTransport_raise {α : Type} {x : Op α} {s t : State} {e : TransportError}
    (h : x s = .error (.raise (.transport e)) t) : attemptTransport x s = .ok (.error e) t := by
  unfold attemptTransport
  rw [Op.bind_ok (attempt_raise h)]
  rfl

/-! Ends of operations. -/

theorem finish_ok {x : Op Result} {s t : State} {r : Result} (h : x s = .ok r t) :
    finish x s = .next { t with result := some r } := by
  simp [finish, h]

theorem finish_raise {x : Op Result} {s t : State} {e : Err} (h : x s = .error (.raise e) t) :
    finish x s = .next (t.fails e) := by
  simp [finish, h, State.fails]

theorem finish_wait {x : Op Result} {s t : State} (h : x s = .error .wait t) : finish x s = .next t := by
  simp [finish, h]

theorem finish_cut {x : Op Result} {s t : State} (h : x s = .error .cut t) : finish x s = .next t.powerCut := by
  simp [finish, h]

theorem finish_stop {x : Op Result} {s t : State} {f : Fault} (h : x s = .error (.stop f) t) : finish x s = .fault f := by
  simp [finish, h]

/-- All an operation that ends in a next state did. -/
theorem finish_next {x : Op Result} {s t : State} (h : finish x s = .next t) :
    (∃ r u, x s = .ok r u ∧ t = { u with result := some r }) ∨
      (∃ e u, x s = .error (.raise e) u ∧ t = u.fails e) ∨ x s = .error .wait t ∨
      ∃ u, x s = .error .cut u ∧ t = u.powerCut := by
  cases hx : x s with
  | ok r u =>
    rw [finish_ok hx] at h
    cases h
    exact .inl ⟨r, u, rfl, rfl⟩
  | error e u =>
    cases e with
    | raise e =>
      rw [finish_raise hx] at h
      cases h
      exact .inr (.inl ⟨e, u, rfl, rfl⟩)
    | wait =>
      rw [finish_wait hx] at h
      cases h
      exact .inr (.inr (.inl rfl))
    | cut =>
      rw [finish_cut hx] at h
      cases h
      exact .inr (.inr (.inr ⟨u, rfl, rfl⟩))
    | stop f =>
      rw [finish_stop hx] at h
      cases h

theorem giving_ok {α : Type} {f : α → Value} {x : Op α} {s t : State} {a : α} (h : x s = .ok a t) :
    finish (giving f x) s = .next (t.gives (f a)) :=
  finish_ok (r := .value (f a)) (by unfold giving; rw [Op.bind_ok h]; rfl)

theorem giving_raise {α : Type} {f : α → Value} {x : Op α} {s t : State} {e : Err} (h : x s = .error (.raise e) t) :
    finish (giving f x) s = .next (t.fails e) :=
  finish_raise (by unfold giving; rw [Op.bind_error h])

theorem giving_stop {α : Type} {f : α → Value} {x : Op α} {s t : State} {g : Fault} (h : x s = .error (.stop g) t) :
    finish (giving f x) s = .fault g :=
  finish_stop (t := t) (by unfold giving; rw [Op.bind_error h])

theorem giving_cut {α : Type} {f : α → Value} {x : Op α} {s t : State} (h : x s = .error .cut t) :
    finish (giving f x) s = .next t.powerCut :=
  finish_cut (by unfold giving; rw [Op.bind_error h])

theorem doing_ok {x : Op Unit} {s t : State} (h : x s = .ok () t) : finish (doing x) s = .next (t.gives .unit) :=
  finish_ok (r := .value .unit) (by unfold doing; rw [Op.bind_ok h]; rfl)

theorem doing_raise {x : Op Unit} {s t : State} {e : Err} (h : x s = .error (.raise e) t) :
    finish (doing x) s = .next (t.fails e) :=
  finish_raise (by unfold doing; rw [Op.bind_error h])

theorem doing_wait {x : Op Unit} {s t : State} (h : x s = .error .wait t) : finish (doing x) s = .next t :=
  finish_wait (by unfold doing; rw [Op.bind_error h])

theorem doing_cut {x : Op Unit} {s t : State} (h : x s = .error .cut t) : finish (doing x) s = .next t.powerCut :=
  finish_cut (by unfold doing; rw [Op.bind_error h])

theorem doing_stop {x : Op Unit} {s t : State} {g : Fault} (h : x s = .error (.stop g) t) :
    finish (doing x) s = .fault g :=
  finish_stop (t := t) (by unfold doing; rw [Op.bind_error h])

theorem replying_ok {x : Op Reply} {s t : State} {r : Reply} (h : x s = .ok r t) :
    finish (replying x) s = .next (t.answered r) :=
  finish_ok (r := .reply r) (by unfold replying; rw [Op.bind_ok h]; rfl)

/-! Suspension points. -/

/-- A suspension through which host power lasts. -/
theorem suspend_ok {ms : Nat} {p : Susp} {s : State} (hc : p.cut = false)
    (hw : s.comp.wdog.expired (s.now + ms) = false) : suspend ms p s = .ok () (s.elapse (s.now + ms) p.acts) := by
  simp [suspend, suspLength, hc, hw]

/-- A passed deadline cuts no earlier than now. -/
theorem Watchdog.le_lapse (w : Watchdog) (now : Nat) : now ≤ w.lapse now := by
  cases w <;> simp [Watchdog.lapse]

/-- A deadline that passes by the end of a suspension cuts within it. -/
theorem Watchdog.lapse_le {w : Watchdog} {now till : Nat} (h : w.expired till = true) (hn : now ≤ till) :
    w.lapse now ≤ till := by
  cases w with
  | unknown => exact hn
  | disabled => exact hn
  | armed timeout deadline =>
    simp only [Watchdog.expired, decide_eq_true_eq] at h
    simp only [Watchdog.lapse]
    omega

/-- A suspension lasts no longer than it is asked to. -/
theorem suspLength_le (p : Susp) (ms : Nat) : suspLength p ms ≤ ms := by
  unfold suspLength
  split <;> omega

/-- All a suspension can do: time passes and what lands is taken (`State.ran_elapse`), to the end, or to a cut of host power
within it. -/
theorem suspend_cases (ms : Nat) (p : Susp) (s : State) :
    (∃ till, s.now ≤ till ∧ till ≤ s.now + ms ∧ suspend ms p s = .error .cut (s.elapse till p.acts)) ∨
      suspend ms p s = .ok () (s.elapse (s.now + ms) p.acts) := by
  have hl := suspLength_le p ms
  unfold suspend
  split
  · next h =>
      have := Watchdog.lapse_le h (Nat.le_add_right s.now _)
      exact .inl ⟨_, Watchdog.le_lapse _ _, by omega, rfl⟩
  · split
    · exact .inl ⟨_, by omega, by omega, rfl⟩
    · next h => exact .inr (by simp [suspLength, h])

/-- `onCut` of an operation that goes on. -/
theorem onCut_ok {α : Type} {f : State → State} {x : Op α} {s t : State} {a : α} (h : x s = .ok a t) :
    onCut f x s = .ok a t := by
  simp [onCut, h]

/-- `onCut` of an operation that host power ends. -/
theorem onCut_cut {α : Type} {f : State → State} {x : Op α} {s t : State} (h : x s = .error .cut t) :
    onCut f x s = .error .cut (f t) := by
  simp [onCut, h]

/-- The next sleep draw, settled. -/
theorem popSleep_cons {s : State} {p : Susp} (h : s.inp.sleep.head? = some p) :
    popSleep s = .ok p { s with inp := { s.inp with sleep := s.inp.sleep.tail } } := by
  cases hq : s.inp.sleep with
  | nil => rw [hq] at h; cases h
  | cons q qs =>
    rw [hq] at h
    cases h
    simp [popSleep, hq]

/-- A sleep through which host power lasts. -/
theorem sleep_rests {ms : Nat} {p : Susp} {s : State} (h : s.rests p ms) : sleep ms s = .ok () (s.didSleep p ms) := by
  obtain ⟨hd, hc, hw⟩ := h
  unfold sleep State.didSleep
  rw [Op.bind_ok (emit_run _ s), Op.bind_ok (popSleep_cons (s := s.emit (.sleep ms)) hd)]
  exact suspend_ok (s := { s.emit (.sleep ms) with inp := { s.inp with sleep := s.inp.sleep.tail } }) hc hw

/-! Transactions. -/

/-- The guard of a transaction, met. -/
theorem guardBus_ok {s : State} (ho : s.busOpen = true) (hh : s.holder = some s.cur) : guardBus s = .ok () s := by
  unfold guardBus
  rw [Op.bind_ok (Op.get_run s)]
  simp [ho, hh]

/-- All the guard of a transaction can do. -/
theorem guardBus_cases (s : State) :
    (s.busOpen = true ∧ s.holder = some s.cur ∧ guardBus s = .ok () s) ∨
      (s.busOpen = true ∧ s.holder ≠ some s.cur ∧ guardBus s = .error (.stop .transactionByNonHolder) s) ∨
      (s.busOpen = false ∧ guardBus s = .error (.stop .busNotOpen) s) := by
  unfold guardBus
  rw [Op.bind_ok (Op.get_run s)]
  by_cases ho : s.busOpen = true
  · by_cases hh : s.holder = some s.cur
    · exact .inl ⟨ho, hh, by simp [ho, hh]⟩
    · exact .inr (.inl ⟨ho, hh, by simp [ho, hh]⟩)
  · exact .inr (.inr ⟨by simpa using ho, by simp [ho]⟩)

/-- The next bus draw, settled. -/
theorem popBus_cons {s : State} {d : BusDraw} (h : s.inp.bus.head? = some d) :
    popBus s = .ok d { s with inp := { s.inp with bus := s.inp.bus.tail } } := by
  cases hq : s.inp.bus with
  | nil => rw [hq] at h; cases h
  | cons q qs =>
    rw [hq] at h
    cases h
    simp [popBus, hq]

/-- A read attempt that is answered. -/
theorem memRead_awaits {r : Byte} {n : Nat} {s : State} {d : BusDraw} (h : s.awaits d) :
    memRead r n s = .ok (s.readAnswer d r n).1 (s.didRead d r n) := by
  obtain ⟨ho, hh, hd, hc, hw⟩ := h
  unfold memRead
  rw [Op.bind_ok (guardBus_ok ho hh), Op.bind_ok (popBus_cons hd),
    Op.bind_ok (suspend_ok (s := { s with inp := { s.inp with bus := s.inp.bus.tail } }) hc hw),
    Op.bind_ok (Op.get_run _)]
  simp [State.didRead, State.readAnswer, State.atAnswer, bind, EStateM.bind]

/-- A write attempt that is answered. -/
theorem memWrite_awaits {r : Byte} {data : List Byte} {s : State} {d : BusDraw} (h : s.awaits d) :
    memWrite r data s = .ok (s.writeAnswer d r data).1 (s.didWrite d r data) := by
  obtain ⟨ho, hh, hd, hc, hw⟩ := h
  unfold memWrite
  rw [Op.bind_ok (guardBus_ok ho hh), Op.bind_ok (popBus_cons hd),
    Op.bind_ok (onCut_ok (suspend_ok (s := { s with inp := { s.inp with bus := s.inp.bus.tail } }) hc hw)),
    Op.bind_ok (Op.get_run _)]
  simp [State.didWrite, State.writeAnswer, State.atAnswer, bind, EStateM.bind]

/-- A transaction whose first attempt succeeds. -/
theorem retryLoop_ok {α : Type} {t : Op (Except Failure α)} {s u : State} {v : α} (h : t s = .ok (.ok v) u) (k : Nat) :
    retryLoop t k s = .ok v u := by
  cases k <;> (unfold retryLoop; rw [Op.bind_ok h]; rfl)

/-- A transaction whose attempt fails fatally. -/
theorem retryLoop_fatal {α : Type} {t : Op (Except Failure α)} {s u : State} {f : Failure}
    (h : t s = .ok (.error f) u) (hf : failureFatal f = true) (k : Nat) :
    retryLoop t k s = .error (.raise (.transport (.single f))) u := by
  cases k <;> (unfold retryLoop; rw [Op.bind_ok h]; simp [hf])

/-- A transaction whose last attempt fails transiently. -/
theorem retryLoop_last {α : Type} {t : Op (Except Failure α)} {s u : State} {f : Failure}
    (h : t s = .ok (.error f) u) (hf : failureFatal f = false) :
    retryLoop t 0 s = .error (.raise (.transport (.retry f))) u := by
  unfold retryLoop
  rw [Op.bind_ok h]
  simp [hf]

/-- A transaction whose attempt fails transiently with retries left: the backoff, then the next attempt. -/
theorem retryLoop_again {α : Type} {t : Op (Except Failure α)} {s u : State} {f : Failure}
    (h : t s = .ok (.error f) u) (hf : failureFatal f = false) (k : Nat) :
    retryLoop t (k + 1) s = (sleep retryBackoffMs >>= fun _ => retryLoop t k) u := by
  conv => lhs; unfold retryLoop
  rw [Op.bind_ok h]
  simp [hf]

/-- A transaction whose attempt ends early. -/
theorem retryLoop_error {α : Type} {t : Op (Except Failure α)} {s u : State} {e : Exc} (h : t s = .error e u) (k : Nat) :
    retryLoop t k s = .error e u := by
  cases k <;> (unfold retryLoop; rw [Op.bind_error h])

/-- A raw read whose first attempt succeeds. -/
theorem rdreg_reads {r : Byte} {n : Nat} {s : State} {d : BusDraw} {bs : List Byte} (h : s.reads d r n bs) :
    rdreg r n s = .ok bs (s.didRead d r n) :=
  retryLoop_ok (by rw [memRead_awaits h.1, h.2]) _

/-- A raw write whose first attempt succeeds. -/
theorem wrreg_writes {r : Byte} {data : List Byte} {s : State} {d : BusDraw} (h : s.writes d r data) :
    wrreg r data s = .ok () (s.didWrite d r data) :=
  retryLoop_ok (by rw [memWrite_awaits h.1, h.2]) _

/-! The lock. -/

/-- A free lock is taken. -/
theorem acquire_free {s : State} (g : Hold) (h : s.canLock) : acquire g s = .ok () s.takeLock := by
  unfold acquire
  rw [Op.bind_ok (Op.get_run s), h]
  rfl

/-- A lock held by another agent is waited for. -/
theorem acquire_held {s : State} {a : Agent} (g : Hold) (h : s.holder = some a) (ha : a ≠ s.cur) :
    acquire g s = .error .wait (s.park s.cur g) := by
  unfold acquire
  rw [Op.bind_ok (Op.get_run s), h]
  simp [ha, bind, EStateM.bind, throw, throwThe, MonadExceptOf.throw, EStateM.throw]

/-- The lock is not re-entrant. -/
theorem acquire_reentrant {s : State} (g : Hold) (h : s.holder = some s.cur) :
    acquire g s = .error (.stop .reentrantLock) s := by
  unfold acquire
  rw [Op.bind_ok (Op.get_run s), h]
  simp

/-- All `Lock()` can do. -/
theorem acquire_cases (g : Hold) (s : State) :
    (s.canLock ∧ acquire g s = .ok () s.takeLock) ∨
      (∃ a, s.holder = some a ∧ a ≠ s.cur ∧ acquire g s = .error .wait (s.park s.cur g)) ∨
      (s.holder = some s.cur ∧ acquire g s = .error (.stop .reentrantLock) s) := by
  cases h : s.holder with
  | none => exact .inl ⟨h, acquire_free g h⟩
  | some a =>
    by_cases ha : a = s.cur
    · subst ha
      exact .inr (.inr ⟨rfl, acquire_reentrant g h⟩)
    · exact .inr (.inl ⟨a, rfl, ha, acquire_held g h ha⟩)

/-- The holder releases. -/
theorem unlock_holder {s : State} (h : s.holder = some s.cur) : unlock s = .ok () s.dropLock := by
  unfold unlock
  rw [Op.bind_ok (Op.get_run s)]
  simp [h, State.dropLock]

/-- Only the holder releases. -/
theorem unlock_other {s : State} (h : s.holder ≠ some s.cur) : unlock s = .error (.stop .unlockByNonHolder) s := by
  unfold unlock
  rw [Op.bind_ok (Op.get_run s)]
  simp [h]

/-- An operation under the lock, taken and released around it. -/
theorem underLock_eq {α : Type} {x : Op α} {s u : State} {r : Except Err α} (g : Hold) (h : s.canLock)
    (hx : attempt x s.takeLock = .ok r u) (hu : u.holder = some u.cur) : underLock g x s = .ok r u.dropLock := by
  unfold underLock
  rw [Op.bind_ok (acquire_free g h), Op.bind_ok hx, Op.bind_ok (unlock_holder hu)]
  rfl

end Sys2Proof.Machine
end

