-- ==== Sys2Proof/Tests/Slice0.lean ====
section
/-! SUPPORT. Tests: ill-formed operations refused, words decoded, one step of each operation after 95_test_vectors, and states and operands that meet the hypotheses of every statement. -/

namespace Sys2Proof.Machine.Tests

set_option Elab.async false

/-! Each check of WellFormed refuses an ill-formed operation. -/

theorem test_wf_rdreg_empty : Instr.wf (.rdreg 0x04 0) = false := by decide

theorem test_wf_rdreg_long : Instr.wf (.rdreg 0x04 (2 ^ 32 + 1)) = false := by decide +kernel

theorem test_wf_wrreg_empty : Instr.wf (.wrreg 0x10 []) = false := by decide

theorem test_wf_numbers :
    Instr.wf (.wrPon 65536) = false ∧ Instr.wf (.wrStandby (2 ^ 32)) = false ∧ Instr.wf (.requestStandby (2 ^ 32)) = false ∧
      Instr.wf (.wru8 0x30 256) = false ∧ Instr.wf (.wru16 0x11 65536) = false ∧ Instr.wf (.wru32 0x40 (2 ^ 32)) = false ∧
      Instr.wf (.dfuPrewait (2 ^ 32)) = false ∧ Instr.wf (.dfuSend (2 ^ 32)) = false ∧
      Instr.wf (.dfuDrain (2 ^ 32)) = false := by decide +kernel

theorem test_wf_sizes :
    Instr.wf (.wrDfuStart 0) = false ∧ Instr.wf (.wrDfuStart 268431361) = false ∧
      Instr.wf (.wrDfuBlock 65535 [0]) = false ∧ Instr.wf (.wrDfuBlock 0 []) = false ∧ Instr.wf (.frame 65535 [0]) = false ∧
      Instr.wf (.frame 0 []) = false ∧ Instr.wf (.partition []) = false := by decide +kernel

theorem test_wf_integers :
    Instr.wf (.getUsb (2 ^ 63)) = false ∧ Instr.wf (.setUsb (-2 ^ 63 - 1) true) = false ∧
      Instr.wf (.cGetUsb (2 ^ 63)) = false ∧ Instr.wf (.cSetUsb (-2 ^ 63 - 1) true) = false ∧
      Instr.wf (.cStandby (.delay (2 ^ 63))) = false ∧ Instr.wf (.cStandby (.datetime (2 ^ 63))) = false ∧
      Instr.wf (.cSetConfig [] (.int (2 ^ 63))) = false ∧ Instr.wf (.cSetConfig [] (.rat (2 ^ 63))) = false := by
  decide +kernel

theorem test_wf_samples :
    Instr.wf (.fsmStep (.ok ⟨0, 0, 0, 0, 0, .unnamed 3⟩) 0) = false ∧
      Instr.wf (.fsmStep (.ok ⟨0, 0, 0, 0, 0, .unnamed 13⟩) 0) = false ∧
      Instr.wf (.fsmStep (.ok ⟨0, 0, 0, 0, 0, .unknown 13⟩) 0) = false ∧
      Instr.wf (.fsmStep (.err (.single .shortWrite)) (2 ^ 64)) = false ∧
      Instr.wf (.fsmStep (.err (.single (.shortRead (2 ^ 64) 0))) 0) = false ∧
      Instr.wf (.fsmStep (.err (.retry (.shortRead 0 (2 ^ 64)))) 0) = false ∧
      Instr.wf (.fsmStep (.err (.retry (.device (.other (2 ^ 64))))) 0) = false := by decide +kernel

/-- The check on the length of a string; a string of 2^32 bytes is too long to write out. -/
theorem test_wf_strings (s : List Byte) (h : s.length = 2 ^ 32) :
    Instr.wf (.crc32 s) = false ∧ Instr.wf (.dfuUpload s) = false ∧ Instr.wf (.cUpload s) = false ∧
      Instr.wf (.cGetConfig (some s)) = false ∧ Instr.wf (.cSetConfig s (.int 0)) = false ∧
      Instr.wf (.cSetConfig [] (.text s)) = false ∧ Instr.wf (.cStandby (.other s)) = false := by
  simp [Instr.wf, CfgValue.wf, StandbyArg.wf, fitsString, fitsBytes, h]

/-! Words written out from 30_encoding R101, R110 (descriptor byte, direction, data), R130 and R133 (codes), with the
operand layouts of log 5, decode to their operations. -/

theorem test_decode_reads :
    decode ⟨.bus, [0x03, 0x01]⟩ = .ok .rdHwver ∧ decode ⟨.bus, [0x04, 0x01]⟩ = .ok .rdFwver ∧
      decode ⟨.bus, [0x05, 0x01]⟩ = .ok .rdDevid ∧ decode ⟨.bus, [0x10, 0x01]⟩ = .ok .rdWdt ∧
      decode ⟨.bus, [0x11, 0x01]⟩ = .ok .rdPon ∧ decode ⟨.bus, [0x20, 0x01]⟩ = .ok .rdVin ∧
      decode ⟨.bus, [0x21, 0x01]⟩ = .ok .rdVscap ∧ decode ⟨.bus, [0x22, 0x01]⟩ = .ok .rdIin ∧
      decode ⟨.bus, [0x23, 0x01]⟩ = .ok .rdTmcu ∧ decode ⟨.bus, [0x24, 0x01]⟩ = .ok .rdTpcb ∧
      decode ⟨.bus, [0x25, 0x01]⟩ = .ok .rdPstate ∧ decode ⟨.bus, [0x26, 0x01]⟩ = .ok .rdUsb0 ∧
      decode ⟨.bus, [0x27, 0x01]⟩ = .ok .rdUsb1 ∧ decode ⟨.bus, [0x28, 0x01]⟩ = .ok .rdUsb2 ∧
      decode ⟨.bus, [0x29, 0x01]⟩ = .ok .rdUsb3 ∧ decode ⟨.bus, [0x41, 0x01]⟩ = .ok .rdDfuStatus ∧
      decode ⟨.bus, [0x42, 0x01]⟩ = .ok .rdDfuBw := by decide +kernel

theorem test_decode_writes :
    decode ⟨.bus, [0x10, 0x00, 0x03, 0xE8]⟩ = .ok .wdArm ∧ decode ⟨.bus, [0x10, 0x00, 0x00, 0x00]⟩ = .ok .wdDisable ∧
      decode ⟨.bus, [0x11, 0x00, 0x80, 0x01]⟩ = .ok (.wrPon 0x8001) ∧
      decode ⟨.bus, [0x26, 0x00, 0x01]⟩ = .ok (.wrUsb0 true) ∧ decode ⟨.bus, [0x27, 0x00, 0x00]⟩ = .ok (.wrUsb1 false) ∧
      decode ⟨.bus, [0x28, 0x00, 0x01]⟩ = .ok (.wrUsb2 true) ∧ decode ⟨.bus, [0x29, 0x00, 0x00]⟩ = .ok (.wrUsb3 false) ∧
      decode ⟨.bus, [0x30, 0x00]⟩ = .ok .wrShutdown ∧
      decode ⟨.bus, [0x31, 0x00, 0x00, 0x01, 0x51, 0x80]⟩ = .ok (.wrStandby 86400) ∧
      decode ⟨.bus, [0x40, 0x00, 0x00, 0x00, 0x30, 0x00]⟩ = .ok (.wrDfuStart 12288) ∧
      decode ⟨.bus, [0x43, 0x00, 0x4A, 0x87, 0x4E, 0xB4, 0x00, 0x01, 0x00, 0x01, 0xFF]⟩ = .ok (.wrDfuBlock 1 [0xFF]) ∧
      decode ⟨.bus, [0x44, 0x00]⟩ = .ok .wrDfuCommit ∧ decode ⟨.bus, [0x45, 0x00]⟩ = .ok .wrDfuAbort := by decide +kernel

theorem test_decode_raw :
    decode ⟨.code, [0x10, 0x41, 0x00, 0x00, 0x00, 0x03]⟩ = .ok (.rdreg 0x41 4) ∧
      decode ⟨.code, [0x11, 0x30, 0x00, 0x00, 0x00, 0x01, 0xAB, 0xCD]⟩ = .ok (.wrreg 0x30 [0xAB, 0xCD]) ∧
      decode ⟨.bus, [0x07, 0x01, 0x00, 0x00, 0x00, 0x01]⟩ = .ok (.rdreg 0x07 2) ∧
      decode ⟨.bus, [0x07, 0x00, 0x00, 0x00, 0x00, 0x00, 0xAB]⟩ = .ok (.wrreg 0x07 [0xAB]) ∧
      decode ⟨.code, [0x12, 0x41]⟩ = .ok (.rdu8 0x41) ∧ decode ⟨.code, [0x13, 0x20]⟩ = .ok (.rdu16 0x20) ∧
      decode ⟨.code, [0x14, 0x04]⟩ = .ok (.rdu32 0x04) ∧ decode ⟨.code, [0x15, 0x42]⟩ = .ok (.rdword 0x42) ∧
      decode ⟨.code, [0x16, 0x30, 0x01]⟩ = .ok (.wru8 0x30 1) ∧
      decode ⟨.code, [0x17, 0x11, 0x12, 0x34]⟩ = .ok (.wru16 0x11 0x1234) ∧
      decode ⟨.code, [0x18, 0x40, 0x0F, 0xFF, 0xF0, 0x00]⟩ = .ok (.wru32 0x40 268431360) := by decide +kernel

theorem test_decode_named :
    decode ⟨.code, [0x20]⟩ = .ok .readMeasurements ∧ decode ⟨.code, [0x21]⟩ = .ok .wdArm ∧
      decode ⟨.code, [0x22]⟩ = .ok .wdFeed ∧ decode ⟨.code, [0x23]⟩ = .ok .wdDisable ∧
      decode ⟨.code, [0x24, 0, 0, 0, 0, 0, 0, 0, 0x03]⟩ = .ok (.getUsb 3) ∧
      decode ⟨.code, [0x25, 0xFF, 0xFF, 0xFF, 0xFF, 0xFF, 0xFF, 0xFF, 0xFF, 0x01]⟩ = .ok (.setUsb (-1) true) ∧
      decode ⟨.code, [0x26]⟩ = .ok .requestShutdown ∧
      decode ⟨.code, [0x27, 0x00, 0x00, 0x0E, 0x10]⟩ = .ok (.requestStandby 3600) := by decide +kernel

theorem test_decode_supervisor :
    decode ⟨.code, [0x30]⟩ = .ok .tick ∧
      decode ⟨.code, [0x31, 0x00, 0x64, 0x00, 0x00, 0x01, 0x00, 0x02, 0x00, 0x03, 0x00, 0x04, 0x02,
        0, 0, 0, 0, 0, 0, 0x4E, 0x20]⟩ = .ok (.fsmStep (.ok ⟨0x6400, 1, 2, 3, 4, .operational⟩) 20000) ∧
      decode ⟨.code, [0x31, 0x02, 0x00, 0x01, 0, 0, 0, 0, 0, 0, 0, 0]⟩ =
        .ok (.fsmStep (.err (.retry (.device .enodev))) 0) ∧
      decode ⟨.code, [0x32]⟩ = .ok .shutdownSeq ∧ decode ⟨.code, [0x33, 0x01]⟩ = .ok (.exitSeq 1) ∧
      decode ⟨.code, [0x34]⟩ = .ok .startup := by decide +kernel

theorem test_decode_dfu :
    decode ⟨.code, [0x40, 0x00, 0x00, 0x00, 0x02, 0xAB, 0xCD]⟩ = .ok (.crc32 [0xAB, 0xCD]) ∧
      decode ⟨.code, [0x41, 0xFF, 0xFE, 0x00, 0x00, 0xAB]⟩ = .ok (.frame 65534 [0xAB]) ∧
      decode ⟨.code, [0x42, 0x00, 0x00, 0x00, 0x01, 0xAB, 0xCD]⟩ = .ok (.partition [0xAB, 0xCD]) ∧
      decode ⟨.code, [0x48, 0x00, 0x00, 0x00, 0x01, 0xAB]⟩ = .ok (.dfuUpload [0xAB]) ∧
      decode ⟨.code, [0x49, 0x00, 0x00, 0x00, 0x02]⟩ = .ok (.dfuPrewait 2) ∧
      decode ⟨.code, [0x4A, 0x00, 0x00, 0x01, 0x00]⟩ = .ok (.dfuSend 256) ∧
      decode ⟨.code, [0x4B, 0x00, 0x00, 0x00, 0x03]⟩ = .ok (.dfuDrain 3) ∧
      decode ⟨.code, [0x4C]⟩ = .ok .dfuCommitSeq ∧ decode ⟨.code, [0x4D]⟩ = .ok .dfuAbortSeq := by decide +kernel

theorem test_decode_requests :
    decode ⟨.code, [0x01]⟩ = .ok .cSnapshot ∧ decode ⟨.code, [0x02, 0x00]⟩ = .ok (.cGetConfig none) ∧
      decode ⟨.code, [0x02, 0x01, 0x00, 0x00, 0x00, 0x01, 0x66]⟩ = .ok (.cGetConfig (some [0x66])) ∧
      decode ⟨.code, [0x03, 0x00, 0x00, 0x00, 0x01, 0x66, 0x00, 0, 0, 0, 0, 0, 0, 0, 0x50]⟩ =
        .ok (.cSetConfig [0x66] (.int 0x50)) ∧
      decode ⟨.code, [0x03, 0x00, 0x00, 0x00, 0x01, 0x66, 0x01, 0, 0, 0, 0, 0, 0, 0, 0x3D, 0, 0, 0, 0, 0, 0, 0, 0x01]⟩ =
        .ok (.cSetConfig [0x66] (.rat (61 / 2))) ∧
      decode ⟨.code, [0x04, 0, 0, 0, 0, 0, 0, 0, 0x04]⟩ = .ok (.cGetUsb 4) ∧
      decode ⟨.code, [0x05, 0, 0, 0, 0, 0, 0, 0, 0x02, 0x00]⟩ = .ok (.cSetUsb 2 false) ∧
      decode ⟨.code, [0x06]⟩ = .ok .cShutdown ∧
      decode ⟨.code, [0x07, 0x00, 0xFF, 0xFF, 0xFF, 0xFF, 0xFF, 0xFF, 0xFF, 0xFF]⟩ = .ok (.cStandby (.delay (-1))) ∧
      decode ⟨.code, [0x08, 0x00, 0x00, 0x00, 0x01, 0xAB]⟩ = .ok (.cUpload [0xAB]) := by decide +kernel

/-- A code without a row, a set bit above bit 8, a truncated word, a broken CRC, and bytes behind a word are refused. -/
theorem test_decode_rejects :
    decode ⟨.code, [0x09]⟩ = .error (.unknownCode 0x09) ∧ decode ⟨.bus, [0x41, 0x03]⟩ = .error (.badDescriptor 0x03) ∧
      decode ⟨.code, [0x13]⟩ = .error .truncated ∧ decode ⟨.bus, [0x26, 0x00, 0x02]⟩ = .error (.badTag 0x02) ∧
      decode ⟨.bus, [0x43, 0x00, 0x4B, 0x87, 0x4E, 0xB4, 0x00, 0x01, 0x00, 0x01, 0xFF]⟩ = .error .badFrame ∧
      decode ⟨.code, [0x30, 0x00, 0x01]⟩ = .error .trailing := by decide +kernel

/-- The table's rows of 9 bits are bus descriptors and those of 8 bits codes, in the host's numbering. -/
theorem test_decode_table :
    decodeTableWord 16 0x104 = some .rdFwver ∧ decodeTableWord 16 0x045 = some .wrDfuAbort ∧
      decodeTableWord 8 0x30 = some .tick ∧ decodeTableWord 8 0x06 = some .cShutdown := by decide +kernel

/-! States for the step tests, under the conventions of 95_test_vectors section 0. -/

/-- The parameters of the vectors; the standby mode is 7. -/
def par : Params :=
  { fsVin := 32, fsVscap := 32, fsIin := 1, fsTmcu := 1, fsTpcb := 1, fsPon := 32, standbyMode := 7, dialect1 := .unfixed,
    wdAnyTraffic := false, tickSlackMs := 0, defaultBus := 1, defaultDevAddr := 0x6D, defaultVlim := 9, defaultTlim := 5,
    defaultPoweroff := [0x2F] }

/-- A suspension that ends at once with nothing in it. -/
def quiet : Susp := ⟨0, [], false⟩

/-- A read answered at once; a write takes it as success. -/
def ans (bs : List Byte) : BusDraw := ⟨quiet, .data bs⟩

/-- A driver error. -/
def dev (e : Errno) : BusDraw := ⟨quiet, .device e⟩

/-- A started block in Ok at 20000 ms with a free lock, its bus answers and three sleeps settled. -/
def free (bus : List BusDraw) : State :=
  { State.initial par with
    up := true, busOpen := true, dialect := some .two, handle := some ⟨1, 0x6D⟩, fsm := .ok, now := 20000,
    pcSup := .sleeping, supWake := some 20000, lastFed := some 17000,
    inp := { Inputs.unsettled with bus := bus, sleep := [quiet, quiet, quiet], launch := [true] } }

/-- The same with the lock held by the supervisor. -/
def held (bus : List BusDraw) : State := { free bus with holder := some .supervisor }

/-- The six answers of a snapshot. -/
def snap (v : List Byte) : List BusDraw :=
  [ans v, ans [0, 0], ans [0, 0], ans [0, 0], ans [0, 0], ans [2]]

/-- The next state of an outcome. -/
def nextOf : Host.Outcome State Fault Refusal → Option State
  | .next t => some t
  | .fault _ => none
  | .refused _ => none

/-- The next state. -/
def run (i : Instr) (s : State) : Option State := nextOf (exec i s)

/-- The state after a step. -/
def stepped (s : State) : Option State := nextOf (step s)

/-- The state an operation leaves, but for its result. -/
def after (i : Instr) (s : State) : State := { (run i s).getD s with result := s.result }

/-- The result. -/
def res (i : Instr) (s : State) : Option Result := (run i s).bind State.result

/-- The events shown. -/
def shown (i : Instr) (s : State) : List Event := ((run i s).map fun t => t.trace.map Prod.snd).getD []

theorem outcome_eq {o : Host.Outcome State Fault Refusal} {t : State} (h : nextOf o = some t) : o = .next t := by
  cases o with
  | next u => exact congrArg _ (Option.some.inj h)
  | fault f => cases h
  | refused r => cases h

theorem outcome_such {o : Host.Outcome State Fault Refusal} {P : State → Prop} [DecidablePred P]
    (h : (nextOf o).any (fun t => decide (P t)) = true) : ∃ t, o = .next t ∧ P t := by
  cases o with
  | next t => exact ⟨t, rfl, of_decide_eq_true h⟩
  | fault f => cases h
  | refused r => cases h

theorem next_such {i : Instr} {s : State} {P : State → Prop} [DecidablePred P]
    (h : (run i s).any (fun t => decide (P t)) = true) : ∃ t, exec i s = .next t ∧ P t := outcome_such h

theorem next_eq {i : Instr} {s t : State} (h : run i s = some t) : exec i s = .next t := outcome_eq h

theorem op_ok {α : Type} [DecidableEq α] {x : Op α} {s : State} {a : α}
    (h : (match x s with | .ok b _ => decide (b = a) | .error _ _ => false) = true) : ∃ t, x s = .ok a t := by
  cases hx : x s with
  | ok b t =>
    rw [hx] at h
    exact ⟨t, congrArg (EStateM.Result.ok · t) (of_decide_eq_true h)⟩
  | error e t =>
    rw [hx] at h
    cases h

theorem op_raises {α : Type} {x : Op α} {s : State} {e : Err}
    (h : (match x s with | .error (.raise f) _ => decide (f = e) | _ => false) = true) :
    ∃ t, x s = .error (.raise e) t := by
  cases hx : x s with
  | ok b t =>
    rw [hx] at h
    cases h
  | error f t =>
    rw [hx] at h
    cases f with
    | raise g => exact ⟨t, congrArg (fun e => EStateM.Result.error (Exc.raise e) t) (of_decide_eq_true h)⟩
    | wait => cases h
    | cut => cases h
    | stop g => cases h

/-- A power cut leaves no result. -/
theorem not_cut {t : State} (h : t.result ≠ none) : ¬t.wasCut := by
  rintro ⟨u, rfl⟩
  exact h rfl

/-! Transport (vectors T1 to T16). -/

theorem test_rdreg : res (.rdreg 0x04 4) (held [ans [2, 0], ans [2, 0, 0, 0xFF]]) =
    some (.value (.bytes [2, 0, 0, 0xFF])) := by decide +kernel

/-- A read of no bytes and a write of no bytes are transactions too (log 30). -/
theorem test_rdreg_empty : (run (.rdreg 0x04 0) (held [⟨quiet, .short⟩])).map (fun t => (t.result, t.trace.map Prod.snd)) =
    some (some (.value (.bytes [])), [.read 0x04 0 (.ok [])]) := by decide +kernel

theorem test_wrreg_empty : shown (.wrreg 0x10 []) (held [ans []]) = [.write 0x10 [] (.ok ())] := by decide +kernel

theorem test_wrreg : shown (.wrreg 0x10 [0x03, 0xE8]) (held [⟨quiet, .short⟩, ans []]) =
    [.write 0x10 [0x03, 0xE8] (.error .shortWrite), .sleep 10, .write 0x10 [0x03, 0xE8] (.ok ())] := by decide +kernel

theorem test_rdu8_retry : shown (.rdu8 0x41) (held [dev (.other 5), ans [2]]) =
    [.read 0x41 1 (.error (.device (.other 5))), .sleep 10, .read 0x41 1 (.ok [2])] := by decide +kernel

theorem test_rdu8_exhausted : res (.rdu8 0x41) (held [dev (.other 5), dev (.other 5), dev (.other 5), dev (.other 6)]) =
    some (.error (.transport (.retry (.device (.other 6))))) := by decide +kernel

theorem test_rdu16 : res (.rdu16 0x20) (held [ans [0xC0, 0x00]]) = some (.value (.num 49152)) := by decide +kernel

theorem test_rdu16_dialect1 : res (.rdu16 0x20) { held [] with
      dialect := some .one, inp := { (held []).inp with dialect1 := [⟨[], quiet, .value 0xC001⟩] } } =
    some (.value (.num 49153)) := by decide +kernel

theorem test_rdu32 : res (.rdu32 0x04) (held [ans [0xFF, 0xFF, 0xFF, 0xFE]]) = some (.value (.num 4294967294)) := by
  decide +kernel

theorem test_rdword : res (.rdword 0x42) { held [ans [0x12, 0x34]] with dialect := some .one } =
    some (.value (.num 0x1234)) := by decide +kernel

theorem test_wru8 : shown (.wru8 0x30 1) (held [ans []]) = [.write 0x30 [1] (.ok ())] := by decide +kernel

theorem test_wru8_wide : exec (.wru8 0x30 256) (held []) = .fault .valueTooWide := rfl

theorem test_wru16 : shown (.wru16 0x11 0x1234) (held [ans []]) = [.write 0x11 [0x12, 0x34] (.ok ())] := by decide +kernel

theorem test_wru32 : shown (.wru32 0x40 268431360) (held [ans []]) = [.write 0x40 [0x0F, 0xFF, 0xF0, 0x00] (.ok ())] := by
  decide +kernel

/-! Named operations (vectors G1 to G21). -/

theorem test_rdHwver : res .rdHwver (held [ans [1, 2, 0]]) = some (.value (.hwVersion ⟨1, 2, 0⟩)) := by decide +kernel

theorem test_rdFwver : res .rdFwver (held [ans [2, 1, 0, 0xFF]]) = some (.value (.fwVersion ⟨2, 1, 0, 0xFF, true⟩)) := by
  decide +kernel

theorem test_rdFwver_pre : res .rdFwver (held [ans [2, 1, 0, 0xFE]]) =
    some (.value (.fwVersion ⟨2, 1, 0, 0xFE, false⟩)) := by decide +kernel

theorem test_rdDevid : res .rdDevid (held [ans [0, 0x11, 0x22, 0x33, 0x44, 0x55, 0x66, 0x77]]) =
    some (.value (.bytes [0, 0x11, 0x22, 0x33, 0x44, 0x55, 0x66, 0x77])) := by decide +kernel

theorem test_rdWdt : res .rdWdt (held [ans [0, 1]]) = some (.value (.num 1)) := by decide +kernel

theorem test_rdPon : shown .rdPon (held [ans [1, 0]]) = [.read 0x11 2 (.ok [1, 0])] := by decide +kernel

theorem test_wrPon : shown (.wrPon 0x8001) (held [ans []]) = [.write 0x11 [0x80, 0x01] (.ok ())] := by decide +kernel

theorem test_channels :
    shown .rdVin (held [ans [1, 2]]) = [.read 0x20 2 (.ok [1, 2])] ∧
      shown .rdVscap (held [ans [1, 2]]) = [.read 0x21 2 (.ok [1, 2])] ∧
      shown .rdIin (held [ans [1, 2]]) = [.read 0x22 2 (.ok [1, 2])] ∧
      shown .rdTmcu (held [ans [1, 2]]) = [.read 0x23 2 (.ok [1, 2])] ∧
      shown .rdTpcb (held [ans [1, 2]]) = [.read 0x24 2 (.ok [1, 2])] ∧
      res .rdTpcb (held [ans [1, 2]]) = some (.value (.num 258)) := by decide +kernel

theorem test_rdPstate : res .rdPstate (held [ans [7]]) = some (.value (.power (.unnamed 7))) := by decide +kernel

theorem test_rdPstate_unknown : res .rdPstate (held [ans [14]]) = some (.value (.power (.unknown 14))) := by decide +kernel

theorem test_rdUsb :
    shown .rdUsb0 (held [ans [0]]) = [.read 0x26 1 (.ok [0])] ∧ res .rdUsb0 (held [ans [0]]) = some (.value (.bool false)) ∧
      shown .rdUsb1 (held [ans [1]]) = [.read 0x27 1 (.ok [1])] ∧ shown .rdUsb2 (held [ans [1]]) = [.read 0x28 1 (.ok [1])] ∧
      res .rdUsb3 (held [ans [2]]) = some (.error (.badValue 0x29 2)) := by decide +kernel

theorem test_wrUsb :
    shown (.wrUsb0 true) (held [ans []]) = [.write 0x26 [1] (.ok ())] ∧
      shown (.wrUsb1 false) (held [ans []]) = [.write 0x27 [0] (.ok ())] ∧
      shown (.wrUsb2 true) (held [ans []]) = [.write 0x28 [1] (.ok ())] ∧
      shown (.wrUsb3 false) (held [ans []]) = [.write 0x29 [0] (.ok ())] := by decide +kernel

theorem test_getUsb : res (.getUsb 1) (held [ans [2]]) = some (.error (.badValue 0x27 2)) := by decide +kernel

theorem test_getUsb_port : res (.getUsb 4) (held []) = some (.error (.notFound (.port 4))) := by decide +kernel

theorem test_setUsb : shown (.setUsb 2 false) (held [ans []]) = [.write 0x28 [0] (.ok ())] := by decide +kernel

theorem test_wdArm : shown .wdArm (held [ans []]) = [.write 0x10 [0x03, 0xE8] (.ok ())] := by decide +kernel

theorem test_wdFeed : (run .wdFeed (held [ans []])).map (fun t => t.comp.wdog) = some (.armed 1000 30000) := by decide +kernel

theorem test_wdDisable : shown .wdDisable (held [ans []]) = [.write 0x10 [0, 0] (.ok ())] := by decide +kernel

theorem test_wrShutdown : shown .wrShutdown (held [ans []]) = [.write 0x30 [1] (.ok ())] := by decide +kernel

theorem test_requestShutdown : shown .requestShutdown (held [ans []]) = [.write 0x30 [1] (.ok ())] := by decide +kernel

theorem test_wrStandby : shown (.wrStandby 3600) (held [ans []]) = [.write 0x31 [7, 0, 0, 0x0E, 0x10] (.ok ())] := by
  decide +kernel

theorem test_requestStandby : shown (.requestStandby 4294967295) (held [ans []]) =
    [.write 0x31 [7, 0xFF, 0xFF, 0xFF, 0xFF] (.ok ())] := by decide +kernel

theorem test_readMeasurements :
    res .readMeasurements (held [ans [0xC0, 0], ans [0xB0, 0], ans [0x10, 0], ans [0x4A, 0], ans [0x4B, 0], ans [2]]) =
      some (.value (.snapshot ⟨0xC000, 0xB000, 0x1000, 0x4A00, 0x4B00, .operational⟩)) := by decide +kernel

theorem test_readMeasurements_fails :
    (shown .readMeasurements (held [ans [0xC0, 0], ans [0xB0, 0], dev .enxio])).filterMap Event.readReg = [0x20, 0x21] := by
  decide +kernel

/-! The supervisor (vectors F1 to F22). -/

/-- The registers a supervisor vector names. -/
def power (t : State) : FsmState × Option Nat × Option Nat × Bool × Option (Fin 3) :=
  (t.fsm, t.t0, t.lastFed, t.step1Done, t.exitCode)

theorem test_tick_enters_blackout : (run .tick (free (snap [0x47, 0xFF]))).map power =
    some (.blackout, some 20000, some 17000, false, none) := by decide +kernel

theorem test_tick_strict : (run .tick (free (snap [0x48, 0x00]))).map power = some (.ok, none, some 17000, false, none) := by
  decide +kernel

/-- The final feed fails; the request write and the launch follow (42_power_fsm R320, R322). -/
theorem test_fsmStep_shutdown :
    (run (.fsmStep (.ok ⟨0x4400, 0, 0, 0, 0, .operational⟩) 20000)
      { held [dev .enxio, ans []] with fsm := .blackout, t0 := some 15000 }).map power =
        some (.dead, some 15000, some 17000, true, none) ∧
      shown (.fsmStep (.ok ⟨0x4400, 0, 0, 0, 0, .operational⟩) 20000)
        { held [dev .enxio, ans []] with fsm := .blackout, t0 := some 15000 } =
        [.write 0x10 [0x03, 0xE8] (.error (.device .enxio)), .write 0x30 [1] (.ok ()), .poweroff [0x2F] true] := by
  decide +kernel

theorem test_fsmStep_recovers :
    (run (.fsmStep (.ok ⟨0x6000, 0, 0, 0, 0, .operational⟩) 20000)
      { held [] with fsm := .blackout, t0 := some 10000 }).map power = some (.ok, none, some 17000, false, none) := by
  decide +kernel

theorem test_shutdownSeq_fatal : shown .shutdownSeq { held [dev .enxio] with fsm := .shutdown } =
    [.write 0x30 [1] (.error (.device .enxio)), .poweroff [0x2F] true] := by decide +kernel

theorem test_shutdownSeq_again :
    (run .shutdownSeq { held [] with fsm := .shutdown, step1Done := true, inp := { (held []).inp with launch := [false] } }).map
      (fun t => (t.fsm, t.supErr, t.trace.map Prod.snd)) =
      some (.shutdown, some .poweroffLaunchFailed, [.poweroff [0x2F] false]) := by decide +kernel

theorem test_exitSeq : (run (.exitSeq 1) (free [dev .enodev])).map (fun t => (t.exitCode, t.pcSup, t.holder)) =
    some (some 1, .exited, none) := by decide +kernel

theorem test_exitSeq_trace : shown (.exitSeq 0) (free [ans []]) =
    [.lock .supervisor, .write 0x10 [0, 0] (.ok ()), .unlock .supervisor, .exit 0] := by decide +kernel

/-! Reset (vectors X1 to X11). -/

/-- A block before reset with a boot input, a bus that opens, and answers. -/
def unborn (flags : RawCfg) (bus : List BusDraw) : State :=
  { State.initial par with
    inp := { Inputs.unsettled with
      boot := [⟨flags, none, []⟩], opened := [⟨quiet, none⟩], bus := bus, sleep := [quiet, quiet, quiet] } }

theorem test_startup :
    (run .startup (unborn RawCfg.empty [ans [1, 4, 2, 0xFF], ans []])).map (fun t => (t.up, t.dialect, t.fsm, t.lastFed, t.pcSup)) =
      some (true, some .one, .ok, some 0, .init) := by decide +kernel

theorem test_startup_invalid :
    (run .startup (unborn { RawCfg.empty with tlim := some (.rat (9 / 100)) } [])).map (fun t => (t.exitCode, t.busOpen)) =
      some (some 2, false) := by decide +kernel

/-! The framer (the check values of the spec). -/

theorem test_crc32 : res (.crc32 [0x31, 0x32, 0x33, 0x34, 0x35, 0x36, 0x37, 0x38, 0x39]) (free []) =
    some (.value (.num 0xCBF43926)) := by decide +kernel

theorem test_frame : res (.frame 65534 [0x00]) (free []) =
    some (.value (.bytes [0x73, 0xE4, 0x60, 0x44, 0xFF, 0xFE, 0x00, 0x01, 0x00])) := by decide +kernel

theorem test_frame_range : exec (.frame 65535 [0x00]) (free []) = .fault .frameOutOfRange := rfl

theorem test_partition : (partitionImage (List.replicate 4097 0)).map List.length = [4096, 1] := by decide +kernel

theorem test_wrDfuStart : shown (.wrDfuStart 12288) (held [ans []]) = [.write 0x40 [0, 0, 0x30, 0] (.ok ())] := by
  decide +kernel

theorem test_wrDfuStart_zero : exec (.wrDfuStart 0) (held []) = .next ((held []).fails (.badRequest (.imageSize 0))) := rfl

theorem test_rdDfuStatus : res .rdDfuStatus (held [ans [4]]) = some (.value (.num 4)) := by decide +kernel

theorem test_rdDfuBw : res .rdDfuBw (held [ans [0, 3]]) = some (.value (.num 3)) := by decide +kernel

theorem test_wrDfuBlock : shown (.wrDfuBlock 1 [0xFF]) (held [ans []]) =
    [.write 0x43 [0x4A, 0x87, 0x4E, 0xB4, 0x00, 0x01, 0x00, 0x01, 0xFF] (.ok ())] := by decide +kernel

theorem test_wrDfuCommit : shown .wrDfuCommit (held [ans []]) = [.write 0x44 [0] (.ok ())] := by decide +kernel

theorem test_wrDfuAbort : shown .wrDfuAbort (held [ans []]) = [.write 0x45 [0] (.ok ())] := by decide +kernel

/-! The DFU engine (vectors E1 to E24, program P1). -/

/-- A reference companion that is ready at once. -/
def reference : RefCompanion := ⟨[], [1, 1, 1, 1], 0, [], none⟩

/-- A free block before the reference companion, with many answers and sleeps settled. -/
def beforeRef (c : RefCompanion) : State :=
  { free (List.replicate 12 (ans [])) with
    comp := { mem := [], wdog := .disabled, ref := some c }
    inp := { (free (List.replicate 12 (ans []))).inp with sleep := List.replicate 9 quiet } }

/-- "HALPI". -/
def halpi : List Byte := [0x48, 0x41, 0x4C, 0x50, 0x49]

theorem test_dfuUpload : (shown (.dfuUpload halpi) (beforeRef reference)).filter Event.isAttempt =
    [.write 0x40 [0, 0, 0, 5] (.ok ()), .read 0x41 1 (.ok [2]),
     .write 0x43 [0x31, 0xD4, 0x79, 0x09, 0, 0, 0, 5, 0x48, 0x41, 0x4C, 0x50, 0x49] (.ok ()),
     .read 0x41 1 (.ok [4]), .read 0x42 2 (.ok [0, 1]), .write 0x44 [0] (.ok ())] := by decide +kernel

/-- QueueFull polls follow the block they are set for (95_test_vectors P2b). -/
theorem test_refBlock_queue :
    (refBlock { reference with queueFullPolls := [0, 2] } ⟨4097, 1, 0, 0, false⟩ (frameBytes 1 [0x41])).queueFull = 2 ∧
      (refBlock { reference with queueFullPolls := [2] } ⟨4097, 1, 0, 0, false⟩ (frameBytes 1 [0x41])).queueFull = 0 := by
  decide +kernel

/-- After the last block an 8-byte write with the right CRC, the next index and length 0 is no frame and is not counted. -/
theorem test_refBlock_empty :
    (refBlock reference ⟨4097, 2, 0, 0, false⟩ (frameBytes 2 [])).count = 2 := by decide +kernel

theorem test_dfuUpload_start_fatal :
    (run (.dfuUpload halpi) (free [dev .enxio, dev .enxio])).map (fun t => (t.result, t.holder, t.exitCode)) =
      some (some (.error (.transport (.single (.device .enxio)))), none, none) := by decide +kernel

theorem test_cUpload : (run (.cUpload halpi) (beforeRef reference)).map (fun t => (t.result, t.now)) =
    some (some (.reply (.value .unit)), 20300) := by decide +kernel

theorem test_dfuPrewait : (run (.dfuPrewait 0) (held [ans [1], ans [2]])).map (fun t => (t.result, t.now)) =
    some (some (.value .unit), 20600) := by decide +kernel

theorem test_dfuPrewait_unknown : res (.dfuPrewait 0) (held [ans [9]]) = some (.error (.dfuUnknown 9)) := by decide +kernel

theorem test_dfuSend :
    shown (.dfuSend 0) { held [ans []] with dfuImage := [0x41], session := some ⟨1, 4096, 1, 0, none⟩ } =
      [.write 0x43 [0xDE, 0xE2, 0xB7, 0x5A, 0, 0, 0, 1, 0x41] (.ok ())] := by decide +kernel

theorem test_dfuDrain : (run (.dfuDrain 3) (held [ans [4], ans [0, 2], ans [4], ans [0, 3]])).map
    (fun t => (t.result, t.now)) = some (some (.value .unit), 20700) := by decide +kernel

theorem test_dfuDrain_status : shown (.dfuDrain 3) (held [ans [6]]) = [.read 0x41 1 (.ok [6])] := by decide +kernel

theorem test_dfuCommitSeq : shown .dfuCommitSeq (held [ans []]) = [.sleep 100, .write 0x44 [0] (.ok ())] := by
  decide +kernel

theorem test_dfuAbortSeq : shown .dfuAbortSeq (held [ans []]) = [.sleep 100, .write 0x45 [0] (.ok ())] := by decide +kernel

/-! The control port (vectors K1 to K27). -/

theorem test_cSnapshot : (run .cSnapshot (free (snap [0x64, 0]))).map State.measLast =
    some (some ⟨0x6400, 0, 0, 0, 0, .operational⟩) := by decide +kernel

theorem test_cGetConfig : res (.cGetConfig (some [0x66, 0x6F, 0x6F])) (free []) =
    some (.reply (.error (.notFound (.key [0x66, 0x6F, 0x6F])))) := by decide +kernel

/-- `i2c_addr`. -/
def addrKey : Text := [0x69, 0x32, 0x63, 0x5F, 0x61, 0x64, 0x64, 0x72]

theorem test_cSetConfig : (run (.cSetConfig addrKey (.int 0x50)) (free [])).map (fun t => (t.cfg.deviceAddress, t.handle)) =
    some (0x50, some ⟨1, 0x6D⟩) := by decide +kernel

theorem test_cSetConfig_range : res (.cSetConfig addrKey (.int 0x07)) (free []) =
    some (.reply (.error (.badRequest (.value (.int 0x07))))) := by decide +kernel

theorem test_cGetUsb : res (.cGetUsb 1) (free [ans [2]]) =
    some (.reply (.error (.internal (.badValue 0x27 2)))) := by decide +kernel

theorem test_cSetUsb : shown (.cSetUsb 0 true) (free [ans []]) =
    [.lock .supervisor, .write 0x26 [1] (.ok ()), .unlock .supervisor] := by decide +kernel

/-- The reply is on its way, and is sent in a step of its own (60_exceptions R640). -/
theorem test_cSetUsb_reply : (run (.cSetUsb 0 true) (free [ans []])).map
    (fun t => (t.replies, ((t.send .supervisor).trace.getLast?).map Prod.snd)) =
    some ([(.supervisor, .value .unit)], some (.reply .supervisor (.value .unit))) := by decide +kernel

theorem test_cShutdown : (run .cShutdown (free [dev .enxio])).map (fun t => (t.intent, t.fsm)) = some (true, .ok) := by
  decide +kernel

theorem test_cStandby : shown (.cStandby (.delay 4294967296)) (free [ans []]) =
    [.lock .supervisor, .write 0x31 [7, 0xFF, 0xFF, 0xFF, 0xFF] (.ok ()), .unlock .supervisor] := by decide +kernel

theorem test_cStandby_datetime :
    (shown (.cStandby (.datetime (1907 / 10))) { free [ans []] with inp := { (free [ans []]).inp with wall := [100] } }).filter
      Event.isAttempt = [.write 0x31 [7, 0, 0, 0, 0x5A] (.ok ())] := by decide +kernel

/-! Witnesses: states and operands that meet the hypotheses of each statement, one for each clause. -/

theorem witness_EncodeDecode : Instr.wf (.cStandby (.datetime (1 / 3))) = true := by decide +kernel

/-- The port holds a word of an operation that needs its caller's hold, and a word that is none. -/
theorem witness_StepRunsOperation :
    (({ free [ans [2]] with opPort := [⟨.code, [0x12, 0x41]⟩] } : State).pcSup ≠ .exited ∧
        ({ free [ans [2]] with opPort := [⟨.code, [0x12, 0x41]⟩] } : State).opPort = [⟨.code, [0x12, 0x41]⟩] ∧
        decode ⟨.code, [0x12, 0x41]⟩ = .ok (.rdu8 0x41) ∧ callerHolds (.rdu8 0x41) = true ∧ (free [ans [2]]).holder = none) ∧
      decode ⟨.code, [0x09]⟩ = .error (.unknownCode 0x09) := by decide +kernel

theorem witness_BlockSteps_startup : (unborn RawCfg.empty []).pcSup ≠ .exited ∧ (unborn RawCfg.empty []).opPort = [] ∧
    (unborn RawCfg.empty []).up = false := by decide

/-- A block with one pending request, its supervisor asleep for another millisecond. -/
def asked (word : List Byte) : State :=
  { free [] with
    supWake := some 20001, reqs := [⟨0, word, .received, none⟩], nextReq := 1
    inp := { (free []).inp with agent := [0] } }

/-- A block whose tick is due. -/
def due : State := { free [] with inp := { (free []).inp with agent := [0] } }

theorem witness_BlockSteps_tick :
    due.pcSup ≠ .exited ∧ due.opPort = [] ∧ due.up = true ∧ due.inp.agent = [0] ∧ due.reqs.filter Request.arrived = [] ∧
      due.waiters = [] ∧ due.replies = [] ∧
      due.pcSup = .sleeping ∧ due.supWake = some 20000 ∧ 20000 ≤ due.now := by decide

theorem witness_BlockSteps_request :
    (asked [0x06]).opPort = [] ∧ (asked [0x06]).up = true ∧ (asked [0x06]).inp.agent = [0] ∧
      (asked [0x06]).pcSup = .sleeping ∧ (asked [0x06]).sigCancel = false ∧ (asked [0x06]).supWake = some 20001 ∧
      (asked [0x06]).now < 20001 ∧ (asked [0x06]).reqs.filter Request.arrived = [⟨0, [0x06], .received, none⟩] ∧
      (asked [0x06]).requestInv ∧ decodeRequest [0x06] = some .cShutdown :=
  ⟨rfl, rfl, rfl, rfl, rfl, rfl, by decide, rfl, ⟨rfl, by decide⟩, by decide +kernel⟩

/-- A block in which request 0 waits at Lock() with `h`, its supervisor asleep. -/
def parked (h : Hold) : State := { asked [0x06] with reqs := [], waiters := [⟨.ctrl 0, h⟩] }

theorem witness_BlockSteps_resume :
    (parked .snapshot).opPort = [] ∧ (parked .snapshot).up = true ∧ (parked .snapshot).inp.agent = [0] ∧
      (parked .snapshot).pcSup = .sleeping ∧ (parked .snapshot).sigCancel = false ∧
      (parked .snapshot).supWake = some 20001 ∧ (parked .snapshot).now < 20001 ∧
      (parked .snapshot).reqs.filter Request.arrived = [] ∧ (parked .snapshot).waiters = [⟨.ctrl 0, .snapshot⟩] ∧
      (parked .snapshot).replies = [] ∧ (parked .snapshot).holder = none := by decide

theorem witness_BlockSteps_upload (h : Hold) (hh : h = .upload [0x41] ∨ h = .uploadRequest [0x41]) :
    let s := (parked h).dfuAt (.ctrl 0) .validate
    s.waiters = [⟨.ctrl 0, h⟩] ∧ s.pcDfu.lookup (.ctrl 0) = some .validate ∧ s.holder = none ∧
      1 ≤ ([0x41] : List Byte).length := by
  rcases hh with rfl | rfl <;> decide

/-- A tick that waits, its limits those it read as it began, with a signal that came while it waited. -/
def waiting : State :=
  { free (snap [0x47, 0xFF]) with
    pcSup := .waitLock, supWake := none, sigCancel := true, waiters := [⟨.supervisor, .tick 9 5⟩]
    cfg := { (free []).cfg with vlim := 0 }, inp := { (free (snap [0x47, 0xFF])).inp with agent := [0] } }

theorem witness_BlockSteps_tick_waits :
    waiting.pcSup = .waitLock ∧ waiting.waiters = [⟨.supervisor, .tick 9 5⟩] ∧ waiting.holder = none ∧
      ({ waiting with pcSup := .exiting, waiters := [⟨.supervisor, .exit 1⟩] } : State).pcSup = .exiting := by decide

/-- It samples and steps with those limits, and the signal is taken at the next tick (60_exceptions R605). -/
theorem test_tick_waited : (stepped waiting).map power = some (.blackout, some 20000, some 17000, false, none) ∧
    (stepped waiting).map State.pcSup = some .sleeping := by decide +kernel

/-- A block that writes a reply, its supervisor asleep for another millisecond, with an idle wait drawn. -/
def replies (n : Nat) : State :=
  { parked .snapshot with
    waiters := [], replies := [(.ctrl 0, .value .unit)]
    inp := { (free []).inp with agent := [n], idle := [quiet] } }

theorem witness_BlockSteps_reply :
    (replies 0).replies = [(.ctrl 0, .value .unit)] ∧ (replies 0).reqs.filter Request.arrived = [] ∧
      (replies 0).waiters = [] ∧ (replies 0).inp.agent = [0] ∧ 0 % 2 = 0 := by decide

theorem witness_BlockSteps_pass :
    1 = ((replies 1).reqs.filter Request.arrived).length + (replies 1).replies.length ∧ 1 % (1 + 1) = 1 ∧
      (replies 1).waiters = [] ∧ (replies 1).supWake = some 20001 ∧ (replies 1).now < 20001 ∧
      (replies 1).inp.idle = [quiet] ∧ (replies 1).comp.wdog.expired 20001 = false := by decide

/-- The tick that is due a millisecond later comes before the reply (60_exceptions R640). -/
theorem test_reply_late :
    (stepped (replies 1)).map (fun t => (t.now, t.replies, t.tasks)) =
      some (20001, [(.ctrl 0, .value .unit)], [.tick, .send (.ctrl 0)]) := by decide +kernel

/-- A session of request 0 during which the supervisor's tick is due 50 ms into a sleep. -/
def starved : State :=
  { held [ans []] with cur := .ctrl 0, holder := some (.ctrl 0), supWake := some 20050 }

theorem witness_BlockSteps_wake :
    starved.up = true ∧ starved.holder ≠ none ∧ starved.cur ≠ .supervisor ∧ starved.pcSup = .sleeping ∧
      starved.supWake = some 20050 ∧ starved.now ≤ 20050 ∧ 20050 < 20100 ∧ starved.fsm ≠ .dead ∧
      starved.sigCancel = false := by decide

/-- The tick begins in its time and waits at Lock() for the session to end (44_dfu_engine R404). -/
theorem test_tick_starved : (run .dfuCommitSeq starved).map (fun t => (t.pcSup, t.waiters, t.now)) =
    some (.waitLock, [⟨.supervisor, .tick 9 5⟩], 20100) := by decide +kernel

/-- The supervisor's hold in a block with one request, of which `reply` is written if it is some. -/
def busy (word : List Byte) (reply : List (Agent × Reply)) : State :=
  { asked word with holder := some .supervisor, pcSup := .sample, supWake := none, replies := reply }

theorem witness_BlockSteps_hold :
    (busy [0x06] []).up = true ∧ (busy [0x06] []).holder = some (busy [0x06] []).cur ∧ (busy [0x06] []).cur = .supervisor ∧
      (⟨0, [0x06], .received, none⟩ : Request) ∈ (busy [0x06] []).reqs ∧ (busy [0x06] []).requestInv ∧
      (busy [0x06] []).cur ≠ .ctrl 0 ∧ (busy [0x06] []).replies.lookup (.ctrl 0) = none ∧
      decodeRequest [0x06] = some .cShutdown ∧ decodeRequest [0x09] = none ∧
      (busy [0x06] [(.ctrl 0, .value .unit)]).replies = [(.ctrl 0, .value .unit)] :=
  ⟨rfl, rfl, rfl, by decide, ⟨rfl, by decide⟩, by decide, rfl, by decide +kernel, by decide +kernel, rfl⟩

/-- A C_SHUTDOWN that starts 3 ms into a hold waits at Lock(), its intent not yet set (45_control R466). -/
theorem test_serve_waits :
    let t := (busy [0x06] []).elapse 20010 [⟨3, .serve 0⟩]
    t.now = 20010 ∧ t.waiters = [⟨.ctrl 0, .shutdown⟩] ∧ t.reqs = [⟨0, [0x06], .running, none⟩] ∧ t.intent = false ∧
      t.holder = some .supervisor := by decide +kernel

theorem witness_BlockSteps_refused :
    (asked [0x09]).reqs.filter Request.arrived = [⟨0, [0x09], .received, none⟩] ∧ (asked [0x09]).requestInv ∧
      decodeRequest [0x09] = none := ⟨rfl, ⟨rfl, by decide⟩, by decide +kernel⟩

/-- A block whose supervisor begins its sleep. -/
def dozing : State :=
  { free [] with supWake := none, inp := { (free []).inp with late := [0], idle := [quiet] } }

theorem witness_BlockSteps_idle :
    dozing.up = true ∧ dozing.pcSup = .sleeping ∧ dozing.sigCancel = false ∧ dozing.supWake = none ∧
      dozing.reqs.filter Request.arrived = [] ∧ dozing.waiters = [] ∧ dozing.replies = [] ∧ dozing.holder = none ∧
      dozing.inp.late = [0] ∧ dozing.inp.idle = [quiet] ∧
      dozing.comp.wdog.expired (dozing.now + (100 + min 0 dozing.par.tickSlackMs)) = false := by decide

theorem awaits_of {s : State} {d : BusDraw}
    (h : decide (s.busOpen = true ∧ s.holder = some s.cur ∧ s.inp.bus.head? = some d ∧ d.susp.cut = false ∧
      s.comp.wdog.expired (s.now + d.susp.dur) = false) = true) : s.awaits d :=
  of_decide_eq_true (p := s.busOpen = true ∧ s.holder = some s.cur ∧ s.inp.bus.head? = some d ∧ d.susp.cut = false ∧
      s.comp.wdog.expired (s.now + d.susp.dur) = false) h

theorem reads_of {s : State} {d : BusDraw} {r : Byte} {n : Nat} {bs : List Byte}
    (h : decide ((s.busOpen = true ∧ s.holder = some s.cur ∧ s.inp.bus.head? = some d ∧ d.susp.cut = false ∧
      s.comp.wdog.expired (s.now + d.susp.dur) = false) ∧ (s.readAnswer d r n).1 = .ok bs) = true) : s.reads d r n bs :=
  of_decide_eq_true (p := (s.busOpen = true ∧ s.holder = some s.cur ∧ s.inp.bus.head? = some d ∧ d.susp.cut = false ∧
      s.comp.wdog.expired (s.now + d.susp.dur) = false) ∧ (s.readAnswer d r n).1 = .ok bs) h

theorem writes_of {s : State} {d : BusDraw} {r : Byte} {data : List Byte}
    (h : decide ((s.busOpen = true ∧ s.holder = some s.cur ∧ s.inp.bus.head? = some d ∧ d.susp.cut = false ∧
      s.comp.wdog.expired (s.now + d.susp.dur) = false) ∧ (s.writeAnswer d r data).1 = .ok ()) = true) :
    s.writes d r data :=
  of_decide_eq_true (p := (s.busOpen = true ∧ s.holder = some s.cur ∧ s.inp.bus.head? = some d ∧ d.susp.cut = false ∧
      s.comp.wdog.expired (s.now + d.susp.dur) = false) ∧ (s.writeAnswer d r data).1 = .ok ()) h

theorem rests_of {s : State} {p : Susp} {ms : Nat}
    (h : decide (s.inp.sleep.head? = some p ∧ p.cut = false ∧
      s.comp.wdog.expired (s.now + (ms + p.dur)) = false) = true) : s.rests p ms :=
  of_decide_eq_true (p := s.inp.sleep.head? = some p ∧ p.cut = false ∧
      s.comp.wdog.expired (s.now + (ms + p.dur)) = false) h

/-- The head of the answers is awaited. -/
theorem awaits_held {d : BusDraw} (ds : List BusDraw) (h : d.susp = quiet) : (held (d :: ds)).awaits d :=
  ⟨rfl, rfl, rfl, by rw [h]; rfl, rfl⟩

theorem reads_held (r : Byte) {n : Nat} {bs : List Byte} (ds : List BusDraw)
    (h : (oracleRead [] r n (.data bs)) = .ok bs) : (held (ans bs :: ds)).reads (ans bs) r n bs := by
  refine ⟨awaits_held ds rfl, ?_⟩
  show ((held (ans bs :: ds)).comp.answerRead _ _ r n (.data bs)).1 = .ok bs
  show (Companion.answerRead.settle _ _ (oracleRead [] r n (.data bs)) _).1 = .ok bs
  rw [h]
  rfl

theorem writes_held (r : Byte) (data : List Byte) (ds : List BusDraw) : (held (ans [] :: ds)).writes (ans []) r data :=
  ⟨awaits_held ds rfl, rfl⟩

theorem witness_RawReadsComplete :
    (held [ans [2]]).reads (ans [2]) 0x41 1 [2] ∧ (held [ans [1, 2, 3, 4]]).reads (ans [1, 2, 3, 4]) 0x04 4 [1, 2, 3, 4] ∧
      (held [ans [1, 2]]).reads (ans [1, 2]) 0x42 2 [1, 2] :=
  ⟨reads_held _ _ rfl, reads_held _ _ rfl, reads_held _ _ rfl⟩

theorem witness_WordReadsDialect2 :
    (held [ans [1, 2]]).dialect = some .two ∧ (.rdVin, 0x20) ∈ wordReads ∧ (held [ans [1, 2]]).reads (ans [1, 2]) 0x20 2 [1, 2] :=
  ⟨rfl, by decide, reads_held _ _ rfl⟩

/-- A dialect-1 block with an unfixed parameter and one settled read. -/
def first (resp : Dialect1Resp) : State :=
  { held [] with dialect := some .one, inp := { (held []).inp with dialect1 := [⟨[⟨40, [], false⟩], quiet, resp⟩] } }

/-- A fixed dialect-1 read through a pointer: the register's number is written to 0x00, its two bytes are read from there. -/
def pointer : Dialect1Read := ⟨[.write 0x00 [0x20], .read 0x00 1, .read 0x00 1], .byteAt 1⟩

/-- A dialect-1 block with that read for register 0x20, and an open decoding for 0x21. -/
def firstFixed (bus : List BusDraw) : State :=
  { held bus with
    dialect := some .one, par := { par with dialect1 := .table [(0x20, pointer), (0x21, ⟨[.read 0x21 1], .decoded⟩)] } }

theorem witness_WordReadsDialect1_unfixed :
    (first (.value 5)).dialect = some .one ∧ (first (.value 5)).par.dialect1 = .unfixed ∧ (first (.value 5)).busOpen = true ∧
      (first (.value 5)).holder = some (first (.value 5)).cur ∧ (first (.value 5)).inp.dialect1 = [⟨[⟨40, [], false⟩], quiet, .value 5⟩] ∧
      (first (.fail .shortWrite)).inp.dialect1 = [⟨[⟨40, [], false⟩], quiet, .fail .shortWrite⟩] ∧
      (first (.fail (.device .enxio))).inp.dialect1 = [⟨[⟨40, [], false⟩], quiet, .fail (.device .enxio)⟩] := by decide

theorem witness_WordReadsDialect1_trace :
    State.lasts { first (.value 5) with inp := { (first (.value 5)).inp with dialect1 := [] } } [⟨40, [], false⟩] :=
  ⟨rfl, rfl, trivial⟩

theorem witness_WordReadsDialect1_table :
    (firstFixed []).par.dialect1 = .table [(0x20, pointer), (0x21, ⟨[.read 0x21 1], .decoded⟩)] ∧
      (∃ t, runDialect1 pointer.txns (firstFixed [ans [], ans [1], ans [2]]) = .ok [[1], [2]] t) ∧
      ([[1], [2]] : List (List Byte)).flatten = 1 :: [2] ∧ (1 :: [2] : List Byte)[1]? = some 2 ∧
      (∃ t, runDialect1 [.read 0x21 1] (firstFixed [ans [1]]) = .ok [[1]] t) ∧
      ∃ t, runDialect1 pointer.txns (firstFixed [dev .enxio]) = .error (.raise (.transport (.single (.device .enxio)))) t :=
  ⟨rfl, op_ok (by decide +kernel), rfl, rfl, op_ok (by decide +kernel), op_raises (by decide +kernel)⟩

theorem witness_RawWritesComplete :
    (held [ans []]).writes (ans []) 0x10 [3] ∧ (held [ans []]).writes (ans []) 0x10 [0, 0] ∧
      (held [ans []]).writes (ans []) 0x40 [0xFF, 0xFF, 0xFF, 0xFF] :=
  ⟨writes_held _ _ _, writes_held _ _ _, writes_held _ _ _⟩

/-- Three transient failures, each with its sleep. -/
def threeFail : List (BusDraw × Susp) := [(dev (.other 5), quiet), (dev (.other 5), quiet), (dev (.other 5), quiet)]

theorem witness_RetryFollows_reads :
    (held [dev (.other 5), dev (.other 5), dev (.other 5), dev (.other 6)]).retriesReads 0x41 1 threeFail ∧
      ((held [dev (.other 5), dev (.other 5), dev (.other 5), dev (.other 6)]).retriedReads 0x41 1 threeFail).awaits
        (dev (.other 6)) :=
  ⟨⟨awaits_of (by decide +kernel), ⟨.device (.other 5), by decide +kernel⟩, rests_of (by decide +kernel),
      awaits_of (by decide +kernel), ⟨.device (.other 5), by decide +kernel⟩, rests_of (by decide +kernel),
      awaits_of (by decide +kernel), ⟨.device (.other 5), by decide +kernel⟩, rests_of (by decide +kernel), trivial⟩,
    awaits_of (by decide +kernel)⟩

theorem witness_RetryFollows_read_ends :
    (((held [dev (.other 5), dev (.other 5), dev (.other 5), ans [2]]).retriedReads 0x41 1 threeFail).readAnswer
        (ans [2]) 0x41 1).1 = .ok [2] ∧
      (((held [dev (.other 5), dev (.other 5), dev (.other 5), dev .enxio]).retriedReads 0x41 1 threeFail).readAnswer
        (dev .enxio) 0x41 1).1 = .error (.device .enxio) ∧
      (((held [dev (.other 5), dev (.other 5), dev (.other 5), dev (.other 6)]).retriedReads 0x41 1 threeFail).readAnswer
        (dev (.other 6)) 0x41 1).1 = .error (.device (.other 6)) ∧
      failureFatal (.device .enxio) = true ∧ failureFatal (.device (.other 6)) = false := by decide +kernel

theorem witness_RetryFollows_writes :
    (held [dev (.other 5), dev (.other 5), dev (.other 5), dev (.other 6)]).retriesWrites 0x30 [1] threeFail ∧
      ((held [dev (.other 5), dev (.other 5), dev (.other 5), dev (.other 6)]).retriedWrites 0x30 [1] threeFail).awaits
        (dev (.other 6)) :=
  ⟨⟨awaits_of (by decide +kernel), ⟨.device (.other 5), by decide +kernel⟩, rests_of (by decide +kernel),
      awaits_of (by decide +kernel), ⟨.device (.other 5), by decide +kernel⟩, rests_of (by decide +kernel),
      awaits_of (by decide +kernel), ⟨.device (.other 5), by decide +kernel⟩, rests_of (by decide +kernel), trivial⟩,
    awaits_of (by decide +kernel)⟩

theorem witness_RetryFollows_write_ends :
    (((held [dev (.other 5), dev (.other 5), dev (.other 5), ans []]).retriedWrites 0x30 [1] threeFail).writeAnswer
        (ans []) 0x30 [1]).1 = .ok () ∧
      (((held [dev (.other 5), dev (.other 5), dev (.other 5), dev .enxio]).retriedWrites 0x30 [1] threeFail).writeAnswer
        (dev .enxio) 0x30 [1]).1 = .error (.device .enxio) ∧
      (((held [dev (.other 5), dev (.other 5), dev (.other 5), dev (.other 6)]).retriedWrites 0x30 [1] threeFail).writeAnswer
        (dev (.other 6)) 0x30 [1]).1 = .error (.device (.other 6)) := by decide +kernel

theorem witness_AttemptBound :
    (∃ t, exec (.rdreg 0x41 1) (held [dev (.other 5), ans [2]]) = .next t ∧ t.holder = some .supervisor) ∧
      ∃ t, exec (.wrreg 0x30 [1]) (held [ans []]) = .next t ∧ t.holder = some .supervisor :=
  ⟨next_such (by decide +kernel), next_such (by decide +kernel)⟩

/-- Four transient failures. -/
def fourFail : List BusDraw := [dev (.other 5), dev (.other 5), dev (.other 5), dev (.other 6)]

theorem witness_RetryCarriesLast :
    (∃ t, exec (.rdreg 0x41 1) (held fourFail) = .next t ∧
        t.result = some (.error (.transport (.retry (.device (.other 6)))))) ∧
      ∃ t, exec (.wrreg 0x30 [1]) (held fourFail) = .next t ∧
        t.result = some (.error (.transport (.retry (.device (.other 6))))) :=
  ⟨next_such (by decide +kernel), next_such (by decide +kernel)⟩

theorem witness_IdentityReads :
    (held [ans [1, 2, 0]]).reads (ans [1, 2, 0]) 0x03 3 [1, 2, 0] ∧
      (held [ans [2, 1, 0, 255]]).reads (ans [2, 1, 0, 255]) 0x04 4 [2, 1, 0, 255] ∧
      (held [ans [0, 1, 2, 3, 4, 5, 6, 7]]).reads (ans [0, 1, 2, 3, 4, 5, 6, 7]) 0x05 8 [0, 1, 2, 3, 4, 5, 6, 7] :=
  ⟨reads_held _ _ rfl, reads_held _ _ rfl, reads_held _ _ rfl⟩

/-- Any power-state byte can be read: 0 to 3, 4, 12, 13, 14 and 255 among them. -/
theorem witness_IdentityReads_state (b : Byte) : (held [ans [b]]).reads (ans [b]) 0x25 1 [b] := reads_held _ _ rfl

theorem witness_SnapshotCompletes :
    let s := held (snap [0x64, 0x00])
    let s1 := s.didRead (ans [0x64, 0x00]) 0x20 2
    let s2 := s1.didRead (ans [0, 0]) 0x21 2
    let s3 := s2.didRead (ans [0, 0]) 0x22 2
    let s4 := s3.didRead (ans [0, 0]) 0x23 2
    let s5 := s4.didRead (ans [0, 0]) 0x24 2
    s.dialect = some .two ∧ s.reads (ans [0x64, 0x00]) 0x20 2 [0x64, 0x00] ∧ s1.reads (ans [0, 0]) 0x21 2 [0, 0] ∧
      s2.reads (ans [0, 0]) 0x22 2 [0, 0] ∧ s3.reads (ans [0, 0]) 0x23 2 [0, 0] ∧ s4.reads (ans [0, 0]) 0x24 2 [0, 0] ∧
      s5.reads (ans [2]) 0x25 1 [2] :=
  ⟨rfl, reads_held _ _ rfl, ⟨⟨rfl, rfl, rfl, rfl, rfl⟩, rfl⟩, ⟨⟨rfl, rfl, rfl, rfl, rfl⟩, rfl⟩,
    ⟨⟨rfl, rfl, rfl, rfl, rfl⟩, rfl⟩, ⟨⟨rfl, rfl, rfl, rfl, rfl⟩, rfl⟩, ⟨⟨rfl, rfl, rfl, rfl, rfl⟩, rfl⟩⟩

theorem witness_SnapshotOrder :
    (∃ t, exec .readMeasurements (held (snap [0x64, 0x00])) = .next t ∧
        t.result = some (.value (.snapshot ⟨0x6400, 0, 0, 0, 0, .operational⟩))) ∧
      ∃ t, exec .readMeasurements (held [ans [0, 0], dev .enxio]) = .next t ∧
        t.result = some (.error (.transport (.single (.device .enxio)))) :=
  ⟨next_such (by decide +kernel), next_such (by decide +kernel)⟩

/-- Any USB byte can be read: 0, 1, 2 and 255 among them. -/
theorem witness_UsbReads (b : Byte) : (.rdUsb3, 3) ∈ usbReads ∧ (held [ans [b]]).reads (ans [b]) 0x29 1 [b] :=
  ⟨by decide, ⟨⟨rfl, rfl, rfl, rfl, rfl⟩, rfl⟩⟩

theorem witness_PortsOutOfRange :
    ¬((4 : Int) = 0 ∨ (4 : Int) = 1 ∨ (4 : Int) = 2 ∨ (4 : Int) = 3) ∧
      ¬((-1 : Int) = 0 ∨ (-1 : Int) = 1 ∨ (-1 : Int) = 2 ∨ (-1 : Int) = 3) := by decide

theorem witness_NamedWrites :
    ((.wdArm, 0x10, [0x03, 0xE8]) ∈ fixedWrites ∧ (held [ans []]).writes (ans []) 0x10 [0x03, 0xE8]) ∧
      (held [ans []]).writes (ans []) 0x11 [0xFF, 0xFF] ∧ (held [ans []]).writes (ans []) 0x29 [if true then 1 else 0] ∧
      (held [ans []]).writes (ans []) 0x31 [(held [ans []]).par.standbyMode, 0xFF, 0xFF, 0xFF, 0xFF] :=
  ⟨⟨by decide, writes_held _ _ _⟩, writes_held _ _ _, writes_held _ _ _, writes_held _ _ _⟩

/-- A block whose companion is armed with a deadline. -/
def armed (deadline : Nat) (bus : List BusDraw) : State :=
  { held bus with comp := { mem := [], wdog := .armed 1000 deadline, ref := none } }

theorem witness_WatchdogDeadline :
    (∃ t, exec .wdArm (held [ans []]) = .next t ∧ t.result = some (.value .unit)) ∧
      (∃ t, exec .wdFeed (held [ans []]) = .next t ∧ t.result = some (.value .unit)) ∧
      (∃ t, exec .wdDisable (held [ans []]) = .next t ∧ t.result = some (.value .unit)) ∧
      (∃ t, exec (.rdreg 0x41 1) (armed 20000 [ans [2]]) = .next t ∧ t.result = some (.value (.bytes [2]))) ∧
      (∃ t, exec (.wrreg 0x11 [1]) (armed 20000 [ans []]) = .next t ∧ t.result = some (.value .unit)) ∧
      (armed 19999 [ans [2]]).inp.bus = [ans [2]] ∧ (armed 19999 [ans [2]]).cutIn quiet 0 20000 ∧
      (armed 19999 [ans [2]]).busOpen = true ∧ (armed 19999 [ans [2]]).holder = some (armed 19999 [ans [2]]).cur :=
  ⟨next_such (by decide +kernel), next_such (by decide +kernel), next_such (by decide +kernel),
    next_such (by decide +kernel), next_such (by decide +kernel), rfl, .inl ⟨_, _, rfl, by decide, rfl⟩, rfl, rfl⟩

/-- A deadline that passes 50 ms into a sleep, and one that a later drawn cut does not reach: power is cut by the draw. -/
theorem witness_WatchdogDeadline_sleep :
    let s : State := { armed 20049 [] with inp := { (armed 20049 []).inp with sleep := [quiet] } }
    s.inp.sleep = [quiet] ∧ s.cutIn quiet (100 + quiet.dur) 20050 ∧ s.cutIn ⟨49, [], true⟩ (100 + 49) 20049 ∧
      (held []).cutIn ⟨30, [], true⟩ (100 + 30) 20030 :=
  ⟨rfl, .inl ⟨_, _, rfl, by decide, by decide⟩, .inr ⟨rfl, by decide, by decide⟩, .inr ⟨rfl, by decide, by decide⟩⟩

/-- An idle block whose host power a draw cuts before its next tick. -/
def cutIdle : State :=
  { free [] with supWake := some 20080, inp := { (free []).inp with idle := [⟨40, [], true⟩] } }

theorem witness_WatchdogDeadline_idle :
    cutIdle.up = true ∧ cutIdle.opPort = [] ∧ cutIdle.pcSup = .sleeping ∧ cutIdle.sigCancel = false ∧
      cutIdle.supWake = some 20080 ∧ cutIdle.now < 20080 ∧ cutIdle.reqs.filter Request.arrived = [] ∧
      cutIdle.waiters = [] ∧ cutIdle.replies = [] ∧ cutIdle.inp.idle = [⟨40, [], true⟩] ∧
      cutIdle.cutIn ⟨40, [], true⟩ (20080 - cutIdle.now) 20040 :=
  ⟨rfl, rfl, rfl, rfl, rfl, by decide, rfl, rfl, rfl, rfl, .inr ⟨rfl, by decide, by decide⟩⟩

/-- The next run of the block begins at the cut (60_exceptions R639). -/
theorem test_cut_idle : (stepped cutIdle).map (fun t => (t.now, t.up)) = some (20040, false) := by decide +kernel

/-- A deadline that passes during a USB write cuts host power at once, and leaves the rail unknown. -/
theorem test_cut_write :
    (run (.wrUsb0 true) { armed 20005 [⟨⟨50, [], false⟩, .data []⟩] with
        comp := { mem := [(0x26, 0)], wdog := .armed 1000 20005, ref := none } }).map
      (fun t => (t.now, t.comp.mem, t.up)) = some (20006, [], false) := by decide +kernel

theorem witness_UsbRoundTrip_control :
    (∀ c, (beforeRef reference).comp.ref = some c → c.usb.length = 4) ∧
      ∃ t, exec (.cSetUsb 2 false) (beforeRef reference) = .next t ∧
        ((beforeRef reference).newEvents t).filterMap (Event.writtenTo 0x28) ≠ [] ∧
        ∃ u, exec (.cGetUsb 2) t = .next u ∧ (t.newEvents u).filterMap Event.readReg ≠ [] ∧ ¬u.wasCut := by
  refine ⟨by rintro c ⟨⟩; rfl, ?_⟩
  obtain ⟨t, ht, hw, hu⟩ := next_such (i := .cSetUsb 2 false) (s := beforeRef reference)
    (P := fun t => ((beforeRef reference).newEvents t).filterMap (Event.writtenTo 0x28) ≠ [] ∧
      (run (.cGetUsb 2) t).any
        (fun u => decide ((t.newEvents u).filterMap Event.readReg ≠ [] ∧ u.result ≠ none)) = true) (by decide +kernel)
  obtain ⟨u, hx, hr, hn⟩ := next_such hu
  exact ⟨t, ht, hw, u, hx, hr, not_cut hn⟩

theorem witness_UsbRoundTrip_named :
    ∃ t, exec (.setUsb 0 true) (held [ans [], ans [7]]) = .next t ∧
      ((held [ans [], ans [7]]).newEvents t).filterMap (Event.writtenTo 0x26) ≠ [] ∧
      ∃ u, exec (.getUsb 0) t = .next u ∧ (t.newEvents u).filterMap Event.readReg ≠ [] ∧ ¬u.wasCut := by
  obtain ⟨t, ht, hw, hu⟩ := next_such (i := .setUsb 0 true) (s := held [ans [], ans [7]])
    (P := fun t => ((held [ans [], ans [7]]).newEvents t).filterMap (Event.writtenTo 0x26) ≠ [] ∧
      (run (.getUsb 0) t).any
        (fun u => decide ((t.newEvents u).filterMap Event.readReg ≠ [] ∧ u.result ≠ none)) = true) (by decide +kernel)
  obtain ⟨u, hx, hr, hn⟩ := next_such hu
  exact ⟨t, ht, hw, u, hx, hr, not_cut hn⟩

theorem witness_ReadsFrame : isPureRead .rdVin = true ∧ (held [ans [1, 2]]).dialect = some .two ∧
    ∃ t, exec .rdVin (held [ans [1, 2]]) = .next t ∧ t.holder = some .supervisor :=
  ⟨rfl, rfl, next_such (by decide +kernel)⟩

theorem witness_WritesFrame : writeTarget (.wrUsb1 true) = some 0x27 ∧
    ∃ t, exec (.wrUsb1 true) (held [ans []]) = .next t ∧ t.comp.mem.byteAt 0x27 = some 1 :=
  ⟨rfl, next_such (by decide +kernel)⟩

theorem witness_LockRules :
    (Instr.wf .rdVin = true ∧ isPureRead .rdVin = true ∧ (free []).dialect = some .two ∧ (free []).busOpen = true ∧
        (free []).holder ≠ some (free []).cur) ∧
      ({ free [] with holder := some (.ctrl 0) } : State).holder = some (.ctrl 0) ∧ Agent.ctrl 0 ≠ (free []).cur ∧
      (held []).holder = some (held []).cur ∧ (free []).sigCancel = false ∧ (free []).fsm ≠ .dead ∧
      1 ≤ halpi.length ∧ halpi.length ≤ 268431360 ∧
      ({ free [] with inp := { (free []).inp with wall := [100] } } : State).inp.wall = 100 :: [] := by decide +kernel

/-- The samples at the boundary of 9.0 V: 18432 is not below it, 18431 is. -/
theorem witness_FsmOk :
    (held []).fsm = .ok ∧ (held []).intent = false ∧
      (((18431#16).toNat : Nat) : Rat) * (held []).par.fsVin / 65536 < (held []).cfg.vlim ∧
      (held []).cfg.vlim ≤ (((18432#16).toNat : Nat) : Rat) * (held []).par.fsVin / 65536 := by decide +kernel

/-- A block in Blackout since `start`. -/
def dark (start : Nat) (bus : List BusDraw) : State := { held bus with fsm := .blackout, t0 := some start }

theorem witness_FsmBlackout :
    (dark 15001 []).fsm = .blackout ∧ (dark 15001 []).intent = false ∧ (dark 15001 []).t0 = some 15001 ∧
      (dark 15001 []).cfg.vlim ≤ (((18432#16).toNat : Nat) : Rat) * (dark 15001 []).par.fsVin / 65536 ∧
      (((18431#16).toNat : Nat) : Rat) * (dark 15001 []).par.fsVin / 65536 < (dark 15001 []).cfg.vlim ∧
      ((20000 - 15001 : Nat) : Rat) < 1000 * (dark 15001 []).cfg.tlim := by decide +kernel

theorem witness_FsmShutdownEntry :
    let s := dark 15000 [ans [], ans []]
    let s1 := { { s with fsm := .shutdown }.didWrite (ans []) 0x10 [0x03, 0xE8] with lastFed := some 20000 }
    let s2 := { s1.didWrite (ans []) 0x30 [0x01] with step1Done := true }
    s.fsm = .blackout ∧ s.intent = false ∧ s.t0 = some 15000 ∧ s.step1Done = false ∧
      (((18431#16).toNat : Nat) : Rat) * s.par.fsVin / 65536 < s.cfg.vlim ∧
      1000 * s.cfg.tlim ≤ ((20000 - 15000 : Nat) : Rat) ∧
      { s with fsm := .shutdown }.writes (ans []) 0x10 [0x03, 0xE8] ∧ s1.writes (ans []) 0x30 [0x01] ∧ s2.launchSettled :=
  ⟨rfl, rfl, rfl, rfl, by decide +kernel, by decide +kernel, ⟨⟨rfl, rfl, rfl, rfl, rfl⟩, rfl⟩,
    ⟨⟨rfl, rfl, rfl, rfl, by decide +kernel⟩, rfl⟩, .inr (List.cons_ne_nil true [])⟩

/-- The final feed fails, and the request write comes all the same. -/
theorem witness_FsmShutdownEntry_feed_fails :
    let s := dark 15000 [dev .enxio, ans []]
    let s1 := after .wdFeed { s with fsm := .shutdown }
    exec .wdFeed { s with fsm := .shutdown } = .next (s1.fails (.transport (.single (.device .enxio)))) ∧
      s1.result = s.result ∧ s1.writes (ans []) 0x30 [0x01] ∧
      State.launchSettled { s1.didWrite (ans []) 0x30 [0x01] with step1Done := true } :=
  ⟨next_eq (by decide +kernel), rfl, writes_of (by decide +kernel), .inr (by decide +kernel)⟩

theorem witness_FsmIntent (f : FsmState) (h : f = .start ∨ f = .ok ∨ f = .blackout) :
    let s := { held [ans []] with fsm := f, intent := true }
    let s0 := { s with intent := false, step1Done := true, t0 := none, fsm := .shutdown }
    let s1 := { s0.didWrite (ans []) 0x10 [0x03, 0xE8] with lastFed := some 20000 }
    (s.fsm = .start ∨ s.fsm = .ok ∨ s.fsm = .blackout) ∧ s.intent = true ∧ s0.writes (ans []) 0x10 [0x03, 0xE8] ∧
      s1.launchSettled :=
  ⟨h, rfl, writes_of (by rcases h with rfl | rfl | rfl <;> decide +kernel),
    .inr (by rcases h with rfl | rfl | rfl <;> decide +kernel)⟩

/-- All four attempts of the final feed fail. -/
theorem witness_FsmIntent_feed_fails :
    let s0 : State := { held fourFail with step1Done := true, fsm := .shutdown }
    exec .wdFeed s0 = .next ((after .wdFeed s0).fails (.transport (.retry (.device (.other 6))))) ∧
      (after .wdFeed s0).result = s0.result ∧ (after .wdFeed s0).launchSettled :=
  ⟨next_eq (by decide +kernel), rfl, .inr (by decide +kernel)⟩

theorem witness_ShutdownSteps :
    ({ held [] with fsm := .dead } : State).fsm = .dead ∧
      (({ held [] with fsm := .shutdown, step1Done := true } : State).step1Done = true ∧
        State.launchSettled { held [] with fsm := .shutdown, step1Done := true }) ∧
      ((held [ans []]).step1Done = false ∧ (held [ans []]).awaits (ans []) ∧
        ((held [ans []]).writeAnswer (ans []) 0x30 [0x01]).1 = .ok () ∧
        State.launchSettled { (held [ans []]).didWrite (ans []) 0x30 [0x01] with step1Done := true }) ∧
      ((held [dev .enxio]).awaits (dev .enxio) ∧
        ((held [dev .enxio]).writeAnswer (dev .enxio) 0x30 [0x01]).1 = .error (.device .enxio) ∧
        failureFatal (.device .enxio) = true ∧
        State.launchSettled { (held [dev .enxio]).didWrite (dev .enxio) 0x30 [0x01] with step1Done := true }) :=
  ⟨rfl, ⟨rfl, .inr (List.cons_ne_nil true [])⟩, ⟨rfl, awaits_held _ rfl, rfl, .inr (List.cons_ne_nil true [])⟩,
    ⟨awaits_held _ rfl, rfl, rfl, .inr (List.cons_ne_nil true [])⟩⟩

/-- The write of 0x30 fails four times. -/
theorem witness_ShutdownSteps_exhausted :
    exec .wrShutdown (held fourFail) =
        .next ((after .wrShutdown (held fourFail)).fails (.transport (.retry (.device (.other 6))))) ∧
      (after .wrShutdown (held fourFail)).result = (held fourFail).result ∧ (held fourFail).step1Done = false ∧
      State.launchSettled { after .wrShutdown (held fourFail) with step1Done := true } :=
  ⟨next_eq (by decide +kernel), rfl, rfl, .inr (by decide +kernel)⟩

theorem witness_ShutdownOutcome :
    ∃ t, exec .shutdownSeq (held [ans []]) = .next t ∧ (held [ans []]).step1Done = false ∧
      (held [ans []]).newEvents t = [.write 0x30 [1] (.ok ())] ++ .poweroff [0x2F] true :: [] :=
  next_such (by decide +kernel)

theorem finish_such {x : Op Result} {s : State} {P : State → Bool}
    (h : (match finish x s with | .next t => P t | _ => false) = true) : ∃ t, finish x s = .next t := by
  split at h
  · exact ⟨_, by assumption⟩
  · cases h

theorem witness_ShutdownOnce :
    (∃ t, exec .tick { free (snap [0x64, 0]) with step1Done := true } = .next t ∧ t.step1Done = true) ∧
      (∃ t, finish (resume (.tick 9 5)) { free (snap [0x64, 0]) with step1Done := true } = .next t) ∧
      (∃ t, exec .tick { free [] with step1Done := true, fsm := .dead } = .next t ∧ t.fsm = .dead) ∧
      (∃ t, exec (.fsmStep (.err (.single .shortWrite)) 0) { held [] with step1Done := true } = .next t ∧ t.step1Done = true) ∧
      ∃ t, exec .shutdownSeq { held [] with step1Done := true } = .next t ∧ t.fsm = .dead :=
  ⟨next_such (by decide +kernel), finish_such (P := fun t => t.step1Done) (by decide +kernel), next_such (by decide +kernel),
    next_such (by decide +kernel), next_such (by decide +kernel)⟩

theorem witness_TickDead :
    (({ free [] with fsm := .dead } : State).fsm = .dead ∧ ({ free [] with fsm := .dead } : State).sigCancel = false) ∧
      ({ free [] with sigCancel := true } : State).sigCancel = true := by decide

/-- A block in Start with its bus answers. -/
def starting (bus : List BusDraw) : State := { free bus with fsm := .start, lastFed := none }

theorem witness_TickStart :
    let s0 := fun bus => ({ starting bus with supWake := none, pcSup := .waitLock } : State)
    (starting []).fsm = .start ∧ (starting []).intent = false ∧ (starting []).sigCancel = false ∧ (s0 []).canLock ∧
      (s0 [ans []]).takeLock.writes (ans []) 0x10 [0x03, 0xE8] ∧ (s0 [dev .enodev]).takeLock.awaits (dev .enodev) ∧
      ((s0 [dev .enodev]).takeLock.writeAnswer (dev .enodev) 0x10 [0x03, 0xE8]).1 = .error (.device .enodev) ∧
      failureFatal (.device .enodev) = true :=
  ⟨rfl, rfl, rfl, rfl, ⟨⟨rfl, rfl, rfl, rfl, rfl⟩, rfl⟩, ⟨rfl, rfl, rfl, rfl, rfl⟩, rfl, rfl⟩

/-- The arm fails four times, which is not fatal. -/
theorem witness_TickStart_exhausted :
    let s0 : State := { starting fourFail with supWake := none, pcSup := .waitLock }
    exec .wdArm s0.takeLock = .next ((after .wdArm s0.takeLock).fails (.transport (.retry (.device (.other 6))))) ∧
      (after .wdArm s0.takeLock).result = s0.result ∧ transportFatal (.retry (.device (.other 6))) = false ∧
      transportFatal (.single (.device .enodev)) = true :=
  ⟨next_eq (by decide +kernel), rfl, rfl, rfl⟩

/-- A tick at its `Lock()`. -/
def ticking (s : State) : State := { s with supWake := none, pcSup := .waitLock }

/-- The tick's state when it samples. -/
def sampling (s : State) : State := { s.takeLock with pcSup := .sample }

/-- The snapshot of 12.5 V. -/
def snapshot125 : Snapshot := ⟨0x6400, 0, 0, 0, 0, .operational⟩

/-- The state after the sample of 12.5 V. -/
def sampled (s : State) : State := { after .readMeasurements (sampling s) with measLast := some snapshot125 }

/-- The feed of a tick in Ok is not due after 4999 ms. -/
theorem witness_TickSamples_rest :
    let s : State := { free (snap [0x64, 0]) with lastFed := some 15001 }
    let s0 := ticking s
    let s2 := { sampled s0 with pcSup := .step }
    s.sigCancel = false ∧ s.fsm ≠ .dead ∧ s0.canLock ∧ s0.fsm = .ok ∧
      exec .readMeasurements (sampling s0) = .next ((after .readMeasurements (sampling s0)).gives (.snapshot snapshot125)) ∧
      (after .readMeasurements (sampling s0)).result = s0.result ∧ s0.lastFed = some 15001 ∧ s0.now - 15001 < 5000 ∧
      finish (doing (fsmStepAt 9 5 (.ok snapshot125) s0.now)) s2 = .next (s2.gives .unit) :=
  ⟨rfl, nofun, rfl, rfl, next_eq (by decide +kernel), rfl, rfl, by decide, outcome_eq (by decide +kernel)⟩

/-- It is due after 5000 ms, in Blackout too, and succeeds. -/
theorem witness_TickSamples_feed :
    let s0 := ticking { free (snap [0x64, 0] ++ [ans []]) with fsm := .blackout, t0 := some 15000, lastFed := some 15000 }
    let s2 := { State.didWrite { sampled s0 with pcSup := .feed } (ans []) 0x10 [0x03, 0xE8] with
      lastFed := some s0.now, pcSup := .step }
    s0.fsm = .blackout ∧ s0.fsm ≠ .start ∧ (∀ fed, s0.lastFed = some fed → 5000 ≤ s0.now - fed) ∧
      exec .readMeasurements (sampling s0) = .next ((after .readMeasurements (sampling s0)).gives (.snapshot snapshot125)) ∧
      State.writes { sampled s0 with pcSup := .feed } (ans []) 0x10 [0x03, 0xE8] ∧
      finish (doing (fsmStepAt 9 5 (.ok snapshot125) s0.now)) s2 =
        .next ({ s2 with fsm := .ok, t0 := none }.gives .unit) :=
  ⟨rfl, nofun, by rintro fed ⟨⟩; decide, next_eq (by decide +kernel), writes_of (by decide +kernel),
    outcome_eq (by decide +kernel)⟩

/-- The sample and the feed each fail four times, which is not fatal. -/
theorem witness_TickSamples_exhausted :
    let s0 : State := { ticking (free (fourFail ++ fourFail)) with
      lastFed := none, inp := { (free (fourFail ++ fourFail)).inp with sleep := List.replicate 6 quiet } }
    let s1 := after .readMeasurements (sampling s0)
    let v := after .wdFeed { s1 with pcSup := .feed }
    let s2 := { v with pcSup := .step }
    transportFatal (.retry (.device (.other 6))) = false ∧ (∀ fed, s0.lastFed = some fed → 5000 ≤ s0.now - fed) ∧
      exec .readMeasurements (sampling s0) = .next (s1.fails (.transport (.retry (.device (.other 6))))) ∧
      exec .wdFeed { s1 with pcSup := .feed } = .next (v.fails (.transport (.retry (.device (.other 6))))) ∧
      v.result = s0.result ∧
      finish (doing (fsmStepAt 9 5 (.err (.retry (.device (.other 6)))) s0.now)) s2 = .next (s2.gives .unit) :=
  ⟨rfl, nofun, next_eq (by decide +kernel), next_eq (by decide +kernel), rfl, outcome_eq (by decide +kernel)⟩

/-- In Shutdown a fatal failure of the sample and of the feed is passed over, and the launch comes again. -/
theorem witness_TickSamples_shutdown :
    let s0 := ticking { free [dev .enxio, dev .enxio] with fsm := .shutdown, step1Done := true, lastFed := some 15000 }
    let s1 := after .readMeasurements (sampling s0)
    let v := after .wdFeed { s1 with pcSup := .feed }
    let s2 := { v with pcSup := .step }
    s0.fsm = .shutdown ∧ (∀ fed, s0.lastFed = some fed → 5000 ≤ s0.now - fed) ∧
      exec .readMeasurements (sampling s0) = .next (s1.fails (.transport (.single (.device .enxio)))) ∧
      exec .wdFeed { s1 with pcSup := .feed } = .next (v.fails (.transport (.single (.device .enxio)))) ∧
      finish (doing (fsmStepAt 9 5 (.err (.single (.device .enxio))) s0.now)) s2 = .next (s2.launched.gives .unit) :=
  ⟨rfl, by rintro fed ⟨⟩; decide, next_eq (by decide +kernel), next_eq (by decide +kernel), outcome_eq (by decide +kernel)⟩

/-- In Start with an intent the tick samples, feeds nothing by schedule, and acts on the intent. -/
theorem witness_TickSamples_intent :
    let s0 := ticking { free (snap [0x64, 0] ++ [ans []]) with fsm := .start, intent := true, lastFed := none }
    let s2 := { sampled s0 with pcSup := .step }
    s0.fsm = .start ∧ s0.intent = true ∧
      exec .readMeasurements (sampling s0) = .next ((after .readMeasurements (sampling s0)).gives (.snapshot snapshot125)) ∧
      ∃ u, finish (doing (fsmStepAt 9 5 (.ok snapshot125) s0.now)) s2 = .next u ∧ u.result = some (.value .unit) ∧
        u.fsm = .dead :=
  ⟨rfl, rfl, next_eq (by decide +kernel), outcome_such (by decide +kernel)⟩

/-- A fatal failure of the third read's second attempt ends a tick in Ok, in Blackout, and in Start with an intent. -/
theorem witness_TickFatal_sample (f : FsmState) (h : f = .ok ∨ f = .blackout ∨ f = .start) :
    let s := { free [ans [0, 0], ans [0, 0], dev (.other 5), dev .enodev] with fsm := f, intent := true, t0 := some 15000 }
    let s0 := ticking s
    let u := after .readMeasurements (sampling s0)
    s.sigCancel = false ∧ s.fsm ≠ .dead ∧ s0.canLock ∧ transportFatal (.single (.device .enodev)) = true ∧
      (s0.fsm = .ok ∨ s0.fsm = .blackout ∨ (s0.fsm = .start ∧ s0.intent = true)) ∧
      exec .readMeasurements (sampling s0) = .next (u.fails (.transport (.single (.device .enodev)))) ∧
      u.result = s0.result := by
  rcases h with rfl | rfl | rfl <;> exact ⟨rfl, nofun, rfl, rfl, by decide, next_eq (by decide +kernel), rfl⟩

/-- A fatal failure of the feed, after a sample that succeeded. -/
theorem witness_TickFatal_feed :
    let s0 := ticking { free (snap [0x64, 0] ++ [dev .enxio]) with lastFed := some 15000 }
    let u := after .wdFeed { sampled s0 with pcSup := .feed }
    s0.fsm = .ok ∧ (∀ fed, s0.lastFed = some fed → 5000 ≤ s0.now - fed) ∧
      exec .readMeasurements (sampling s0) = .next ((after .readMeasurements (sampling s0)).gives (.snapshot snapshot125)) ∧
      (after .readMeasurements (sampling s0)).result = s0.result ∧
      exec .wdFeed { sampled s0 with pcSup := .feed } = .next (u.fails (.transport (.single (.device .enxio)))) ∧
      u.result = s0.result :=
  ⟨rfl, by rintro fed ⟨⟩; decide, next_eq (by decide +kernel), rfl, next_eq (by decide +kernel), rfl⟩

/-- And after a sample that failed four times, which is not fatal. -/
theorem witness_TickFatal_feed_exhausted :
    let s0 : State := { ticking (free (fourFail ++ [dev .enxio])) with lastFed := none }
    let s1 := after .readMeasurements (sampling s0)
    let u := after .wdFeed { s1 with pcSup := .feed }
    transportFatal (.retry (.device (.other 6))) = false ∧
      exec .readMeasurements (sampling s0) = .next (s1.fails (.transport (.retry (.device (.other 6))))) ∧
      s1.result = s0.result ∧
      exec .wdFeed { s1 with pcSup := .feed } = .next (u.fails (.transport (.single (.device .enxio)))) ∧
      u.result = s0.result :=
  ⟨rfl, next_eq (by decide +kernel), rfl, next_eq (by decide +kernel), rfl⟩

theorem witness_TickTimes :
    (∃ t, exec .tick (free (snap [0x47, 0xFF])) = .next t ∧ t.t0 = some 20000) ∧
      ∃ t, finish (resume (.tick 9 5)) (ticking (free (snap [0x47, 0xFF]))) = .next t ∧ t.t0 = some 20000 :=
  ⟨next_such (by decide +kernel), outcome_such (by decide +kernel)⟩

theorem witness_ExitSequence :
    let s0 := fun bus => ({ free bus with pcSup := .exiting } : State)
    (s0 []).canLock ∧ (s0 [ans []]).takeLock.awaits (ans []) ∧
      ((s0 [ans []]).takeLock.writeAnswer (ans []) 0x10 [0x00, 0x00]).1 = .ok () ∧
      ((s0 [dev .enxio]).takeLock.writeAnswer (dev .enxio) 0x10 [0x00, 0x00]).1 = .error (.device .enxio) ∧
      ∃ t, exec (.exitSeq 1) (free [ans []]) = .next t ∧ t.exitCode = some 1 :=
  ⟨rfl, ⟨rfl, rfl, rfl, rfl, rfl⟩, rfl, rfl, next_such (by decide +kernel)⟩

theorem witness_StartupCompletes (major : Byte) :
    let s := unborn RawCfg.empty [ans [major, 1, 0, 0xFF], ans []]
    let c := Cfg.builtIn par
    let s1 := State.elapse { s with inp := { s.inp with boot := [], opened := [] }, cfg := c } (s.now + 0) []
    let s2 := { s1.emit (.openBus c.busIndex c.deviceAddress none) with
      busOpen := true, handle := some ⟨c.busIndex, c.deviceAddress⟩ }
    let s3 := { s2.takeLock.didRead (ans [major, 1, 0, 0xFF]) 0x04 4 with
      dialect := some (if major.toNat ≤ 1 then .one else .two) }
    s.busOpen = false ∧ s.pcSup ≠ .exited ∧ s.inp.boot = [⟨RawCfg.empty, none, []⟩] ∧
      configOf s.par ⟨RawCfg.empty, none, []⟩ = .ok c ∧ s.inp.opened = [⟨quiet, none⟩] ∧ s2.canLock ∧
      s2.takeLock.reads (ans [major, 1, 0, 0xFF]) 0x04 4 [major, 1, 0, 0xFF] ∧ s3.writes (ans []) 0x10 [0x03, 0xE8] :=
  ⟨rfl, fun h => (nomatch h), rfl,
    show configOf par ⟨RawCfg.empty, none, []⟩ = .ok (Cfg.builtIn par) by decide +kernel, rfl, rfl,
    ⟨⟨rfl, rfl, rfl, rfl, rfl⟩, rfl⟩,
    ⟨⟨rfl, rfl, rfl, rfl, rfl⟩, rfl⟩⟩

/-- STARTUP's state when the bus is open and the lock taken, with its bus answers. -/
def opened (bus : List BusDraw) : State :=
  let s := unborn RawCfg.empty bus
  let c := Cfg.builtIn par
  let s1 := State.elapse { s with inp := { s.inp with boot := [], opened := [] }, cfg := c } (s.now + 0) []
  State.takeLock { s1.emit (.openBus c.busIndex c.deviceAddress none) with
    busOpen := true, handle := some ⟨c.busIndex, c.deviceAddress⟩ }

/-- The version read fails fatally, and four times transiently. -/
theorem witness_StartupCompletes_read :
    exec .rdFwver (opened [dev .enxio]) =
        .next ((after .rdFwver (opened [dev .enxio])).fails (.transport (.single (.device .enxio)))) ∧
      (after .rdFwver (opened [dev .enxio])).result = (unborn RawCfg.empty []).result ∧
      exec .rdFwver (opened fourFail) =
        .next ((after .rdFwver (opened fourFail)).fails (.transport (.retry (.device (.other 6))))) ∧
      (after .rdFwver (opened fourFail)).result = (unborn RawCfg.empty []).result :=
  ⟨next_eq (by decide +kernel), rfl, next_eq (by decide +kernel), rfl⟩

/-- The first arm fails fatally, and four times transiently. -/
theorem witness_StartupCompletes_arm :
    let s3 := fun bus => ({ (opened (ans [1, 4, 2, 0xFF] :: bus)).didRead (ans [1, 4, 2, 0xFF]) 0x04 4 with
      dialect := some .one } : State)
    exec .wdArm (s3 [dev .enxio]) =
        .next ((after .wdArm (s3 [dev .enxio])).fails (.transport (.single (.device .enxio)))) ∧
      (after .wdArm (s3 [dev .enxio])).result = (unborn RawCfg.empty []).result ∧
      exec .wdArm (s3 fourFail) = .next ((after .wdArm (s3 fourFail)).fails (.transport (.retry (.device (.other 6))))) ∧
      (after .wdArm (s3 fourFail)).result = (unborn RawCfg.empty []).result :=
  ⟨next_eq (by decide +kernel), rfl, next_eq (by decide +kernel), rfl⟩

/-- A failed version read exits with code 1 after the disable write (95_test_vectors X9). -/
theorem test_startup_read_fails :
    (run .startup (unborn RawCfg.empty [dev .enxio, ans []])).map
      (fun t => (t.exitCode, t.supErr, t.trace.map Prod.snd |>.filter Event.isAttempt)) =
      some (some 1, some (.startupReadFailed (.single (.device .enxio))),
        [.read 0x04 4 (.error (.device .enxio)), .write 0x10 [0, 0] (.ok ())]) := by decide +kernel

/-- Vlim = 30.1 is invalid, 30 is not, and an open can fail. -/
theorem witness_StartupExits :
    configOf par ⟨{ RawCfg.empty with vlim := some (.rat (301 / 10)) }, none, []⟩ = .error (.field .vlim) ∧
      configOf par ⟨{ RawCfg.empty with vlim := some (.int 30) }, none, []⟩ = .ok { Cfg.builtIn par with vlim := 30 } ∧
      ({ unborn RawCfg.empty [] with
        inp := { (unborn RawCfg.empty []).inp with opened := [⟨quiet, some (.other 13)⟩] } } : State).inp.opened =
        [⟨quiet, some (.other 13)⟩] ∧
      (free []).busOpen = true := by decide +kernel

theorem witness_StartupLeaves :
    ∃ t, exec .startup { State.initial par with inp := (unborn RawCfg.empty [ans [2, 0, 0, 0xFF], ans []]).inp, now := 7 } =
      .next t ∧ t.up = true := next_such (by decide +kernel)

/-- Every field given, with a rational and a whole number among the values. -/
def fullRaw (vlim : Int) : RawCfg :=
  { busIndex := some (.int 4), deviceAddress := some (.int 0x50), vlim := some (.int vlim), tlim := some (.rat (1 / 2)),
    socketPath := some (.text [0x61]), socketGroup := some (.text [0x62]), poweroff := some (.text [0x63]) }

/-- Every field from a flag over a file at a given path, from the file at the default path, and by default where the file is
absent; and a file that cannot be read. -/
theorem witness_ConfigPrecedence :
    let c : Cfg := { Cfg.builtIn par with
      busIndex := 4, deviceAddress := 0x50, vlim := 10, tlim := 1 / 2, socketPath := [0x61], socketGroup := [0x62],
      poweroff := [0x63] }
    let path := asciiText "/etc/halpid/halpid.conf"
    configOf par ⟨fullRaw 10, some [0x66], [([0x66], .values (fullRaw 11))]⟩ = .ok c ∧
      ([([0x66], .values (fullRaw 11))] : List (Text × ConfFile)).lookup [0x66] = some (.values (fullRaw 11)) ∧
      configOf par ⟨RawCfg.empty, none, [(path, .values (fullRaw 10))]⟩ = .ok c ∧
      configOf par ⟨RawCfg.empty, none, []⟩ = .ok (Cfg.builtIn par) ∧
      configOf par ⟨RawCfg.empty, none, [(path, .absent)]⟩ = .ok (Cfg.builtIn par) ∧
      ([(path, .unreadable)] : List (Text × ConfFile)).lookup path = some .unreadable := by decide +kernel

/-- The bounds of the three ranges are legal (95_test_vectors X1), from flag and file alike, and just beyond them is not. -/
theorem witness_ConfigPrecedence_bounds :
    let low : RawCfg := { RawCfg.empty with vlim := some (.int 0), tlim := some (.rat (1 / 10)), deviceAddress := some (.int 0x08) }
    let high : RawCfg := { RawCfg.empty with vlim := some (.rat 30), tlim := some (.int 600), deviceAddress := some (.int 0x77) }
    configOf par ⟨low, none, []⟩ = .ok { Cfg.builtIn par with vlim := 0, tlim := 1 / 10, deviceAddress := 0x08 } ∧
      configOf par ⟨RawCfg.empty, some [0x66], [([0x66], .values high)]⟩ =
        .ok { Cfg.builtIn par with vlim := 30, tlim := 600, deviceAddress := 0x77 } ∧
      configOf par ⟨{ low with deviceAddress := some (.int 0x07) }, none, []⟩ = .error (.field .deviceAddress) ∧
      configOf par ⟨{ high with tlim := some (.rat (6001 / 10)) }, none, []⟩ = .error (.field .tlim) := by decide +kernel

theorem witness_FrameBytes :
    (65534 ≤ 65534 ∧ 1 ≤ ([0x00] : List Byte).length ∧ ([0x00] : List Byte).length ≤ 4096) ∧
      (65534 < 65535 ∨ ([] : List Byte).length = 0) := by decide

theorem witness_PartitionBlocks : 1 ≤ halpi.length ∧ halpi.length ≤ 268431360 := by decide

theorem witness_DfuRegisters :
    (held [ans []]).writes (ans []) 0x40 [0x0F, 0xFF, 0xF0, 0x00] ∧ (held [ans []]).writes (ans []) 0x40 [0, 0, 0, 1] ∧
      268431360 < 268431361 ∧ (held [ans [4]]).reads (ans [4]) 0x41 1 [4] ∧
      (held [ans []]).writes (ans []) 0x43 (frameBytes 65534 [0x00]) :=
  ⟨writes_held _ _ _, writes_held _ _ _, Nat.le_refl _, reads_held _ _ rfl, writes_held _ _ _⟩

/-- A block in the session of a three-block image, in dialect 2; what is done in it here does not read the image. -/
def inSession (bus : List BusDraw) : State := { held bus with session := some ⟨8193, 4096, 3, 2, none⟩ }

/-- A wait of a session that was told Preparing once; then any status can be read. -/
theorem witness_PrewaitFollows (st : Byte) :
    let s := inSession [ans [1], ans [st]]
    let s0 := s.dfuAt s.cur (.preWait 2)
    let l : List WaitPoll := [⟨ans [1], 1, quiet⟩]
    let u := (s0.didSleep quiet 100).afterPolls l
    s.session ≠ none ∧ s.sigCancel = false ∧ s0.rests quiet 100 ∧
      (s0.didSleep quiet 100).keepsPolling (s0.didSleep quiet 100).now l ∧ u.reads (ans [st]) 0x41 1 [st] :=
  ⟨nofun, rfl, rests_of rfl,
    ⟨reads_of (by decide +kernel +revert), .inl rfl, by decide +kernel +revert, by decide +kernel +revert,
      rests_of (by decide +kernel +revert), trivial⟩,
    reads_of (by decide +kernel +revert)⟩

/-- The next poll fails. -/
theorem witness_PrewaitFollows_fails :
    let s := inSession [ans [1], dev .enxio]
    let u := State.afterPolls (State.didSleep (s.dfuAt s.cur (.preWait 2)) quiet 100) [⟨ans [1], 1, quiet⟩]
    exec .rdDfuStatus u = .next ((after .rdDfuStatus u).fails (.transport (.single (.device .enxio)))) :=
  next_eq (by decide +kernel)

/-- A poll that ends 30000 ms after the wait began, and a signal that lands in one. -/
theorem witness_PrewaitFollows_ends :
    let slow : BusDraw := ⟨⟨30000, [], false⟩, .data [3]⟩
    let cancelled : BusDraw := ⟨⟨29999, [⟨29000, .signal .terminate⟩], false⟩, .data [3]⟩
    let u := fun d => (State.didSleep ((inSession [d]).dfuAt .supervisor (.preWait 2)) quiet 100)
    (u slow).reads slow 0x41 1 [3] ∧ ((u slow).polled slow 3).now - (u slow).now = 30000 ∧
      (u cancelled).reads cancelled 0x41 1 [3] ∧ ((u cancelled).polled cancelled 3).now - (u cancelled).now < 30000 ∧
      ((u cancelled).polled cancelled 3).sigCancel = true ∧
      ({ inSession [] with sigCancel := true } : State).sigCancel = true :=
  ⟨reads_of (by decide +kernel), by decide +kernel, reads_of (by decide +kernel), by decide +kernel, by decide +kernel, rfl⟩

/-- One iteration of a session that counted 2 of 3, then any status byte, and a full count. -/
theorem witness_DrainFollows (st : Byte) :
    let s := fun l => inSession ([ans [4], ans [0, 2]] ++ l)
    let s0 := fun l => (s l).dfuAt (s l).cur .drain
    let l : List DrainRound := [⟨ans [4], 4, quiet, ans [0, 2], 0, 2, quiet⟩]
    let w : DrainRound := ⟨ans [4], 4, quiet, ans [0, 3], 0, 3, quiet⟩
    (s []).session ≠ none ∧ (s []).dialect = some .two ∧ (s0 [ans [st]]).keepsDraining 20000 3 l ∧
      ((s0 [ans [st]]).afterRounds l).reads (ans [st]) 0x41 1 [st] ∧ (s0 [ans [4], ans [0, 3]]).keepsDraining 20000 3 l ∧
      ((s0 [ans [4], ans [0, 3]]).afterRounds l).counts w ∧ w.status = 4 ∧ w.count = 3 :=
  ⟨nofun, rfl,
    ⟨⟨reads_of (by decide +kernel +revert), by decide, by decide, rests_of (by decide +kernel +revert),
        reads_of (by decide +kernel +revert)⟩, by decide, by decide +kernel +revert, rests_of (by decide +kernel +revert),
      trivial⟩,
    reads_of (by decide +kernel +revert),
    ⟨⟨reads_of (by decide +kernel), by decide, by decide, rests_of (by decide +kernel), reads_of (by decide +kernel)⟩,
      by decide, by decide +kernel, rests_of (by decide +kernel), trivial⟩,
    ⟨reads_of (by decide +kernel), by decide, by decide, rests_of (by decide +kernel), reads_of (by decide +kernel)⟩, rfl,
    by decide⟩

/-- The next iteration's status read fails, and its count read. -/
theorem witness_DrainFollows_fails :
    let s0 := fun l => (inSession ([ans [4], ans [0, 2]] ++ l)).dfuAt .supervisor .drain
    let l : List DrainRound := [⟨ans [4], 4, quiet, ans [0, 2], 0, 2, quiet⟩]
    let u := (s0 [dev .enxio]).afterRounds l
    let v := (s0 [ans [4], dev .enxio]).afterRounds l
    let w := (v.polled (ans [4]) 4).didSleep quiet 100
    exec .rdDfuStatus u = .next ((after .rdDfuStatus u).fails (.transport (.single (.device .enxio)))) ∧
      v.reads (ans [4]) 0x41 1 [4] ∧ (v.polled (ans [4]) 4).rests quiet 100 ∧
      exec .rdDfuBw w = .next ((after .rdDfuBw w).fails (.transport (.single (.device .enxio)))) :=
  ⟨next_eq (by decide +kernel), reads_of (by decide +kernel), rests_of (by decide +kernel), next_eq (by decide +kernel)⟩

/-- A count that comes 5000 ms after the drain began. -/
theorem witness_DrainFollows_limit (st : Byte) (h : st = 1 ∨ st = 4) :
    let w : DrainRound := ⟨ans [st], st, ⟨4900, [], false⟩, ans [0, 2], 0, 2, quiet⟩
    let s : State := { inSession [ans [st], ans [0, 2]] with
      inp := { (held [ans [st], ans [0, 2]]).inp with sleep := [⟨4900, [], false⟩] } }
    let u := s.dfuAt s.cur .drain
    u.counts w ∧ w.count ≠ 3 ∧ 5000 ≤ (u.counted w).now - 20000 := by
  rcases h with rfl | rfl <;>
    exact ⟨⟨reads_of (by decide +kernel), by decide, by decide, rests_of (by decide +kernel), reads_of (by decide +kernel)⟩,
      by decide, by decide +kernel⟩

theorem witness_SessionSteps :
    let s : State := { held [ans []] with dfuImage := List.replicate 4097 0, session := some ⟨4097, 4096, 2, 1, none⟩ }
    let s1 := s.dfuAt s.cur (.send 1)
    let c := fun bus => (inSession bus).dfuAt .supervisor .commit
    let a := fun bus => (inSession bus).dfuAt .supervisor .abort
    ((65534 < 65535 ∧ s.dfuImage.length ≤ 4096 * 2) ∧ 4096 * 1 < s.dfuImage.length ∧
        s1.writes (ans []) 0x43 (frameBytes 1 ((s.dfuImage.drop (4096 * 1)).take 4096))) ∧
      ((c [ans []]).rests quiet 100 ∧ ((c [ans []]).didSleep quiet 100).writes (ans []) 0x44 [0x00]) ∧
      ((a [ans []]).rests quiet 100 ∧ ((a [ans []]).didSleep quiet 100).awaits (ans []) ∧
        (((a [ans []]).didSleep quiet 100).writeAnswer (ans []) 0x45 [0x00]).1 = .ok () ∧
        (((a [dev .enxio]).didSleep quiet 100).writeAnswer (dev .enxio) 0x45 [0x00]).1 = .error (.device .enxio)) :=
  ⟨⟨⟨by decide, show (List.replicate 4097 (0 : Byte)).length ≤ 4096 * 2 by rw [List.length_replicate]; decide⟩,
      show 4096 * 1 < (List.replicate 4097 (0 : Byte)).length by rw [List.length_replicate]; decide,
      ⟨⟨rfl, rfl, rfl, rfl, rfl⟩, rfl⟩⟩,
    ⟨rests_of rfl, writes_of (by decide +kernel)⟩, rests_of rfl, awaits_of (by decide +kernel), by decide +kernel,
    by decide +kernel⟩

/-- The commit write fails. -/
theorem witness_SessionSteps_commit_fails :
    let u := State.didSleep ((inSession [dev .enxio]).dfuAt .supervisor .commit) quiet 100
    exec .wrDfuCommit u = .next ((after .wrDfuCommit u).fails (.transport (.single (.device .enxio)))) :=
  next_eq (by decide +kernel)

/-- The abort write fails four times. -/
theorem witness_SessionSteps_exhausted :
    let a : State := { (inSession fourFail).dfuAt .supervisor .abort with
      inp := { (held fourFail).inp with sleep := List.replicate 4 quiet } }
    let u := a.didSleep quiet 100
    a.rests quiet 100 ∧
      exec .wrDfuAbort u = .next ((after .wrDfuAbort u).fails (.transport (.retry (.device (.other 6))))) :=
  ⟨rests_of (by decide +kernel), next_eq (by decide +kernel)⟩

theorem witness_UploadRefused :
    ([] : List Byte).length = 0 ∧ ∃ image : List Byte, 65535 * 4096 < image.length :=
  ⟨rfl, List.replicate 268431361 0, by rw [List.length_replicate]; decide⟩

theorem witness_UploadCompletes :
    1 ≤ halpi.length ∧ halpi.length ≤ 268431360 ∧ 1 = (halpi.length + 4095) / 4096 ∧ (beforeRef reference).canLock ∧
      (beforeRef reference).busOpen = true ∧ (beforeRef reference).dialect = some .two ∧
      (beforeRef reference).sigCancel = false ∧ (beforeRef reference).comp.ref = some reference ∧
      reference.preparingPolls = 0 ∧ reference.queueFullPolls = [] ∧ (beforeRef reference).comp.wdog = .disabled ∧
      (beforeRef reference).quietFor (2 * 1 + 4) (1 + 2) :=
  ⟨by decide, by decide, by decide, rfl, rfl, rfl, rfl, rfl, rfl, rfl, rfl, ⟨by decide, by decide, by decide, by decide⟩⟩

theorem witness_SessionWrites :
    (beforeRef reference).canLock ∧ (beforeRef reference).dialect = some .two ∧
      (∃ t, exec (.dfuUpload halpi) (beforeRef reference) = .next t ∧ t.result = some (.value .unit)) ∧
      ∃ t, exec (.dfuUpload halpi) (free [ans [], ans [9], ans []]) = .next t ∧
        t.result = some (.error (.dfuUnknown 9)) :=
  ⟨rfl, rfl, next_such (by decide +kernel), next_such (by decide +kernel)⟩

/-- Boundary values of both types, values just outside, and values of another type. -/
theorem witness_ConfigRequests :
    ([0x66, 0x6F, 0x6F] : Text) ∉ configKeys ∧ isRat (.rat (1 / 10)) (1 / 10) ∧ isRat (.int 30) 30 ∧
      (∀ n : Nat, CfgValue.int (-1) ≠ .int n) ∧ (∀ a : Int, 0x08 ≤ a → a ≤ 0x77 → CfgValue.int 0x78 ≠ .int a) ∧
      (∀ q : Rat, 0 ≤ q → q ≤ 30 → ¬isRat (.rat (61 / 2)) q) ∧ (∀ q : Rat, 1 / 10 ≤ q → q ≤ 600 → ¬isRat (.text []) q) ∧
      ∀ x : Text, CfgValue.int 0 ≠ .text x := by
  refine ⟨by decide +kernel, .inl rfl, .inr ⟨30, rfl, by norm_num⟩, ?_, ?_, ?_, ?_, ?_⟩
  · rintro n h
    injection h with h
    omega
  · rintro a h1 h2 h
    injection h with h
    omega
  · rintro q h1 h2 (h | ⟨n, h, -⟩)
    · injection h with h
      subst h
      norm_num at h2
    · cases h
  · rintro q h1 h2 (h | ⟨n, h, -⟩) <;> cases h
  · rintro x h
    cases h

/-- Six reads in a hold, and any byte of a rail. -/
theorem witness_BusRequests_completes (b : Byte) :
    let s := free (snap [0x64, 0x00])
    let s1 := s.takeLock.didRead (ans [0x64, 0x00]) 0x20 2
    let s2 := s1.didRead (ans [0, 0]) 0x21 2
    let s3 := s2.didRead (ans [0, 0]) 0x22 2
    let s4 := s3.didRead (ans [0, 0]) 0x23 2
    let s5 := s4.didRead (ans [0, 0]) 0x24 2
    (s.canLock ∧ s.dialect = some .two ∧ s.takeLock.reads (ans [0x64, 0x00]) 0x20 2 [0x64, 0x00] ∧
        s1.reads (ans [0, 0]) 0x21 2 [0, 0] ∧ s2.reads (ans [0, 0]) 0x22 2 [0, 0] ∧ s3.reads (ans [0, 0]) 0x23 2 [0, 0] ∧
        s4.reads (ans [0, 0]) 0x24 2 [0, 0] ∧ s5.reads (ans [2]) 0x25 1 [2]) ∧
      (free [ans [b]]).takeLock.reads (ans [b]) 0x29 1 [b] ∧
      (free [ans []]).takeLock.writes (ans []) 0x26 [if false then 1 else 0] :=
  ⟨⟨rfl, rfl, ⟨⟨rfl, rfl, rfl, rfl, rfl⟩, rfl⟩, ⟨⟨rfl, rfl, rfl, rfl, rfl⟩, rfl⟩, ⟨⟨rfl, rfl, rfl, rfl, rfl⟩, rfl⟩,
      ⟨⟨rfl, rfl, rfl, rfl, rfl⟩, rfl⟩, ⟨⟨rfl, rfl, rfl, rfl, rfl⟩, rfl⟩, ⟨⟨rfl, rfl, rfl, rfl, rfl⟩, rfl⟩⟩,
    ⟨⟨rfl, rfl, rfl, rfl, rfl⟩, rfl⟩, ⟨⟨rfl, rfl, rfl, rfl, rfl⟩, rfl⟩⟩

theorem witness_BusRequests :
    (free (snap [0x64, 0])).canLock ∧
      (∃ u, exec .readMeasurements (free (snap [0x64, 0])).takeLock = .next u ∧
        u.result = some (.value (.snapshot snapshot125))) ∧
      (∃ u, exec .readMeasurements (free [dev .enxio]).takeLock = .next u ∧
        u.result = some (.error (.transport (.single (.device .enxio))))) ∧
      (∃ u, exec (.getUsb 3) (free [ans [1]]).takeLock = .next u ∧ u.result = some (.value (.bool true))) ∧
      (∃ u, exec (.getUsb 3) (free [dev .enxio]).takeLock = .next u ∧
        u.result = some (.error (.transport (.single (.device .enxio))))) ∧
      (∃ u, exec (.getUsb 0) (free [ans [2]]).takeLock = .next u ∧ u.result = some (.error (.badValue 0x26 2))) ∧
      (∃ u, exec (.setUsb 3 true) (free [ans []]).takeLock = .next u ∧ u.result = some (.value .unit)) ∧
      ∃ u, exec (.setUsb 0 true) (free [dev .enxio]).takeLock = .next u ∧
        u.result = some (.error (.transport (.single (.device .enxio)))) :=
  ⟨rfl, next_such (by decide +kernel), next_such (by decide +kernel), next_such (by decide +kernel),
    next_such (by decide +kernel), next_such (by decide +kernel), next_such (by decide +kernel), next_such (by decide +kernel)⟩

theorem witness_ShutdownRequest :
    (free [ans []]).canLock ∧ (free [ans []]).takeLock.writes (ans []) 0x30 [0x01] ∧
      (free [dev .enxio]).takeLock.awaits (dev .enxio) ∧
      ((free [dev .enxio]).takeLock.writeAnswer (dev .enxio) 0x30 [0x01]).1 = .error (.device .enxio) ∧
      ∃ t, exec .cShutdown (free [ans []]) = .next t ∧ t.intent = true :=
  ⟨rfl, ⟨⟨rfl, rfl, rfl, rfl, rfl⟩, rfl⟩, ⟨rfl, rfl, rfl, rfl, rfl⟩, rfl, next_such (by decide +kernel)⟩

/-- A delay of 2^32 is clamped; a wake time 90.7 s ahead is floored. -/
theorem witness_StandbyRequest :
    (4294967295 : Nat) = min (4294967296 : Int).toNat (2 ^ 32 - 1) ∧ (free [ans []]).canLock ∧
      (free [ans []]).takeLock.writes (ans []) 0x31 [7, 0xFF, 0xFF, 0xFF, 0xFF] ∧
      90 = min (1907 / 10 - 100 : Rat).floor.toNat (2 ^ 32 - 1) ∧
      (free [ans []]).takeLock.writes (ans []) 0x31 [7, 0, 0, 0, 0x5A] :=
  ⟨by decide, rfl, ⟨⟨rfl, rfl, rfl, rfl, rfl⟩, rfl⟩, by decide +kernel, ⟨⟨rfl, rfl, rfl, rfl, rfl⟩, rfl⟩⟩

/-- The write succeeds, and fails. -/
theorem witness_StandbyRequest_ends :
    (∃ u, exec (.requestStandby 90) (free [ans []]).takeLock = .next u ∧ u.result = some (.value .unit)) ∧
      ∃ u, exec (.requestStandby 4294967295) (free [dev .enxio]).takeLock = .next u ∧
        u.result = some (.error (.transport (.single (.device .enxio)))) :=
  ⟨next_such (by decide +kernel), next_such (by decide +kernel)⟩

theorem witness_RefusedWithoutTraffic :
    isControl (.cGetUsb 4) = true ∧
      (∃ t, exec (.cGetUsb 4) (free []) = .next t ∧ t.result = some (.reply (.error (.notFound (.port 4)))) ∧
        (free []).result ≠ t.result) ∧
      ∃ t, exec (.cGetUsb 1) (free [ans [2]]) = .next t ∧
        t.result = some (.reply (.error (.internal (.badValue 0x27 2)))) ∧ (free [ans [2]]).result ≠ t.result :=
  ⟨rfl, next_such (by decide +kernel), next_such (by decide +kernel)⟩

/-! The invariants hold of a started block in Blackout that remembers a USB value, and it steps. -/

/-- A block in Blackout with a known rail, a request served, and a tick due. -/
def living : State :=
  { dark 15000 (snap [0x64, 0]) with
    holder := none
    comp := { mem := [(0x27, 1)], wdog := .armed 1000 27000, ref := none }
    reqs := [⟨0, [0x06], .replied, some (.value .unit)⟩], nextReq := 1
    trace := [(100, .sleep 100), (20000, .reply (.ctrl 0) (.value .unit))]
    inp := { (free []).inp with bus := snap [0x64, 0], agent := [0] } }

theorem witness_invariants :
    living.companionInv ∧ living.powerInv ∧ living.blockInv ∧ living.requestInv ∧ living.clockInv ∧ living.supInv ∧
      living.opPort = [] := by
  refine ⟨⟨rfl, by decide, ?_⟩, ⟨by decide, by decide, by decide⟩, ⟨rfl, rfl, ?_, by decide, nofun⟩, ⟨rfl, by decide⟩,
    ⟨by decide, by decide⟩, ⟨by decide, by decide, nofun, by decide⟩, rfl⟩
  · rintro timeout deadline h
    cases h
    decide
  · exact fun _ => ⟨rfl, by decide, by decide, by decide +kernel⟩

/-- They hold of a block whose tick waits at Lock(), too. -/
theorem witness_invariants_waiting : waiting.blockInv ∧ waiting.supInv := by
  refine ⟨⟨rfl, rfl, fun _ => ⟨rfl, by decide, by decide, by decide +kernel⟩, nofun, ?_⟩, by decide, by decide, ?_, by decide⟩
  · rintro w (_ | ⟨_, ⟨⟩⟩)
    trivial
  · rintro w (_ | ⟨_, ⟨⟩⟩)
    exact ⟨fun _ => .inl ⟨_, _, rfl⟩, fun _ => rfl⟩

theorem witness_step : (stepped living).map State.fsm = some .ok := by decide +kernel

/-- The host's word placed on a started block is the operation the next step runs. -/
theorem test_withFetchWord :
    (stepped ((free (snap [0x47, 0xFF])).withFetchWord 8 0x30)).map power = some (.blackout, some 20000, some 17000, false, none) := by decide +kernel

end Sys2Proof.Machine.Tests
end

section
/-! PROOFS. A predicate kept by operations, and the rules by which an operation keeps one. -/

namespace Sys2Proof.Machine

/-- The state an operation leaves, whether it goes on or ends early (60_exceptions R610). -/
def leaves {α : Type} (x : Op α) (s : State) : State :=
  match x s with
  | .ok _ t => t
  | .error _ t => t

/-- Wherever `P` holds, it holds of the state that `x` leaves. -/
def Keeps {α : Type} (P : State → Prop) (x : Op α) : Prop := ∀ s, P s → P (leaves x s)

theorem leaves_ok {α : Type} {x : Op α} {s t : State} {a : α} (h : x s = .ok a t) : leaves x s = t := by
  simp [leaves, h]

theorem leaves_error {α : Type} {x : Op α} {s t : State} {e : Exc} (h : x s = .error e t) : leaves x s = t := by
  simp [leaves, h]

section Rules

variable {P : State → Prop} {α β : Type}

theorem keeps_of_leaves_eq {x : Op α} (h : ∀ s, leaves x s = s) : Keeps P x := fun s hs => by
  rw [h s]
  exact hs

@[simp] theorem keeps_pure (a : α) : Keeps P (pure a : Op α) := fun _ hs => hs

@[simp] theorem keeps_raise (e : Err) : Keeps P (raise e : Op α) := fun _ hs => hs

@[simp] theorem keeps_stop (f : Fault) : Keeps P (stop f : Op α) := fun _ hs => hs

@[simp] theorem keeps_get : Keeps P (get : Op State) := fun _ hs => hs

@[simp] theorem keeps_clock : Keeps P clock := fun _ hs => hs

theorem keeps_bind {x : Op α} {f : α → Op β} (hx : Keeps P x) (hf : ∀ a, Keeps P (f a)) : Keeps P (x >>= f) := by
  intro s hs
  have hP := hx s hs
  cases h : x s with
  | ok a t =>
    rw [leaves_ok h] at hP
    rw [leaves, Op.bind_ok h]
    exact hf a t hP
  | error e t =>
    rw [leaves_error h] at hP
    rwa [leaves_error (Op.bind_error h)]

/-- An operation that begins with a look at its state. -/
theorem keeps_get_bind {f : State → Op β} (hf : ∀ s, P s → P (leaves (f s) s)) : Keeps P (get >>= f) := hf

@[simp] theorem keeps_ite {c : Prop} [Decidable c] {x y : Op α} (hx : Keeps P x) (hy : Keeps P y) :
    Keeps P (if c then x else y) := by
  split
  · exact hx
  · exact hy

/-- A handler keeps what the operation under it keeps. -/
theorem keeps_attempt {x : Op α} (hx : Keeps P x) : Keeps P (attempt x) := by
  intro s hs
  have hP := hx s hs
  obtain ⟨a, t, h, ha⟩ | ⟨e, t, h, ha⟩ | ⟨e, t, h, -, ha⟩ := attempt_cases x s
  · rw [leaves_ok h] at hP
    rwa [leaves_ok ha]
  · rw [leaves_error h] at hP
    rwa [leaves_ok ha]
  · rw [leaves_error h] at hP
    rwa [leaves_error ha]

theorem keeps_attemptTransport {x : Op α} (hx : Keeps P x) : Keeps P (attemptTransport x) :=
  keeps_bind (keeps_attempt hx) fun r => by split <;> simp

theorem keeps_giving {f : α → Value} {x : Op α} (hx : Keeps P x) : Keeps P (giving f x) :=
  keeps_bind hx fun _ => keeps_pure _

theorem keeps_doing {x : Op Unit} (hx : Keeps P x) : Keeps P (doing x) := keeps_bind hx fun _ => keeps_pure _

end Rules

end Sys2Proof.Machine
end

section
/-! PROOFS. What every suspension keeps of the clock: the trace stays in its order. -/

namespace Sys2Proof.Machine

/-! The trace. -/

theorem State.clockInv_of_trace_eq {s t : State} (hs : s.clockInv) (ht : t.trace = s.trace) (hn : s.now ≤ t.now) :
    t.clockInv := by
  obtain ⟨hsorted, hpast⟩ := hs
  refine ⟨by rwa [ht], fun e he => ?_⟩
  rw [ht] at he
  exact (hpast e he).trans hn

/-- An event stamped with the clock keeps the order. -/
theorem State.clockInv_of_trace_snoc {s t : State} {e : Event} (hs : s.clockInv)
    (ht : t.trace = s.trace ++ [(s.now, e)]) (hn : s.now ≤ t.now) : t.clockInv := by
  obtain ⟨hsorted, hpast⟩ := hs
  unfold State.clockInv
  rw [ht]
  constructor
  · simpa [List.pairwise_append, hsorted] using fun a x => hpast (a, x)
  · intro x hx
    rw [List.mem_append, List.mem_singleton] at hx
    obtain hx | rfl := hx
    · exact (hpast x hx).trans hn
    · exact hn

/-! What a run of another agent shows. -/

theorem State.arm_eq (s : State) : ∃ i w, s.arm = { s with inp := i, supWake := w } := by
  unfold State.arm popLate
  cases s.inp.late with
  | nil =>
    dsimp only
    split
    · exact ⟨_, _, rfl⟩
    · exact ⟨_, _, rfl⟩
  | cons d ds =>
    dsimp only
    split
    · exact ⟨_, _, rfl⟩
    · exact ⟨_, _, rfl⟩

@[simp] theorem State.arm_trace (s : State) : s.arm.trace = s.trace := by
  obtain ⟨i, w, h⟩ := s.arm_eq
  rw [h]

@[simp] theorem State.arm_waiters (s : State) : s.arm.waiters = s.waiters := by
  obtain ⟨i, w, h⟩ := s.arm_eq
  rw [h]

/-- A tick that begins shows nothing. -/
@[simp] theorem State.wake_trace (s : State) : s.wake.trace = s.trace := by
  unfold State.wake
  split <;> simp

@[simp] theorem State.atValidate_trace (s : State) (i : Instr) (k : Nat) : (s.atValidate i k).trace = s.trace := by
  unfold State.atValidate
  split <;> rfl

theorem State.requestHold_trace {s t : State} {i : Instr} {h : Hold} (e : s.requestHold i = some (h, t)) :
    t.trace = s.trace := by
  unfold State.requestHold at e
  split at e
  case h_6 w =>
    obtain ⟨x, u, hx, -, -, ht, -, -, -⟩ := popWall_around s
    rw [hx] at e
    cases e
    exact ht
  all_goals cases e
  all_goals rfl

/-- A request's agent that starts shows nothing before its reply is sent. -/
@[simp] theorem State.start_trace (s : State) (q : Request) : (s.start q).trace = s.trace := by
  unfold State.start
  split
  · rfl
  · split
    · simp
    · split
      · rfl
      · split
        · simp [State.requestHold_trace ‹_›]
        · rfl

/-- A reply shows one event at the most. -/
theorem State.clockInv_send {s : State} (h : s.clockInv) (a : Agent) : (s.send a).clockInv := by
  unfold State.send
  split
  · exact h
  · exact State.clockInv_of_trace_snoc h rfl le_rfl

theorem State.clockInv_act {s : State} (h : s.clockInv) (a : EnvAct) : (s.act a).clockInv := by
  cases a with
  | signal k => exact State.clockInv_of_trace_snoc h rfl le_rfl
  | request w =>
    simp only [State.act]
    split
    · exact State.clockInv_of_trace_snoc h rfl le_rfl
    · exact h
  | serve k =>
    simp only [State.act, State.serve]
    split
    · exact h
    · split
      · exact State.clockInv_send h _
      · split
        · exact h
        · exact State.clockInv_of_trace_eq h (s.start_trace _) (s.ran_start _).now
  | wake =>
    simp only [State.act]
    split
    · split
      · exact State.clockInv_of_trace_eq h s.wake_trace s.ran_wake.now
      · exact h
    · exact h

/-- The ticks that begin as time passes show nothing. -/
@[simp] theorem State.wakes_trace (s : State) (till k : Nat) : (s.wakes till k).trace = s.trace := by
  induction k generalizing s with
  | zero => rfl
  | succ k ih =>
    unfold State.wakes
    split
    · rfl
    · split
      · rw [ih, State.wake_trace]
      · rfl

theorem State.clockInv_passTo {s : State} (h : s.clockInv) {till : Nat} (ht : s.now ≤ till) : (s.passTo till).clockInv :=
  State.clockInv_of_trace_eq h (s.wakes_trace till _) ht

/-- A suspension keeps the trace in the clock's order. -/
theorem State.clockInv_elapse {s : State} (h : s.clockInv) {till : Nat} (ht : s.now ≤ till) (as : List Arrival) :
    (s.elapse till as).clockInv := by
  induction as generalizing s with
  | nil => exact State.clockInv_passTo h ht
  | cons a as ih =>
    refine ih (State.clockInv_act (State.clockInv_passTo h (by omega)) a.act) ?_
    simp only [State.act_now, State.passTo_now]
    omega

/-! The states a run can reach. -/

/-- `u` comes after `s` in a run of which `u`'s clock is in order: time has gone on, the trace has grown, the parameters are
the same, and so are the dialect and the handle of an open bus (00_scope R6, 10_state R22, 45_control R462). -/
structure State.since (s u : State) : Prop where
  clock : u.clockInv
  now : s.now ≤ u.now
  trace : ∃ es, u.trace = s.trace ++ es
  par : u.par = s.par
  bus : s.busOpen = true → u.busOpen = true ∧ u.dialect = s.dialect ∧ u.handle = s.handle

/-- All that `State.since` sees of a state. -/
def State.face (s : State) : Nat × List (Nat × Event) × Params × Bool × Option Dialect × Option Handle :=
  (s.now, s.trace, s.par, s.busOpen, s.dialect, s.handle)

theorem State.since_refl {s : State} (h : s.clockInv) : s.since s :=
  ⟨h, le_rfl, ⟨[], by simp⟩, rfl, fun ho => ⟨ho, rfl, rfl⟩⟩

theorem State.since_trans {s u v : State} (h : s.since u) (g : u.since v) : s.since v := by
  obtain ⟨es, he⟩ := h.trace
  obtain ⟨fs, hf⟩ := g.trace
  refine ⟨g.clock, h.now.trans g.now, ⟨es ++ fs, by rw [hf, he, List.append_assoc]⟩, g.par.trans h.par, fun ho => ?_⟩
  obtain ⟨hu, hud, huh⟩ := h.bus ho
  obtain ⟨hv, hvd, hvh⟩ := g.bus hu
  exact ⟨hv, hvd.trans hud, hvh.trans huh⟩

theorem State.since_of_face_eq {s u v : State} (h : s.since u) (hf : v.face = u.face) : s.since v := by
  simp only [State.face, Prod.mk.injEq] at hf
  obtain ⟨hn, ht, hp, ho, hd, hh⟩ := hf
  exact State.since_trans h ⟨State.clockInv_of_trace_eq h.clock ht hn.ge, hn.ge, ⟨[], by simp [ht]⟩, hp,
    fun hu => ⟨ho.trans hu, hd, hh⟩⟩

theorem State.since_emit {s u : State} (h : s.since u) (e : Event) : s.since (u.emit e) :=
  State.since_trans h ⟨State.clockInv_of_trace_snoc h.clock rfl le_rfl, le_rfl, ⟨_, rfl⟩, rfl, fun ho => ⟨ho, rfl, rfl⟩⟩

/-- A run of another agent that keeps the trace in order. -/
theorem State.since_ran {s u v : State} (h : s.since u) (hr : u.ran v) (hv : v.clockInv) : s.since v := by
  have ha := hr.around
  unfold State.around at ha
  exact State.since_trans h ⟨hv, hr.now, hr.trace, by rw [ha], fun ho => by rw [ha]; exact ⟨ho, rfl, rfl⟩⟩

theorem State.since_elapse {s u : State} (h : s.since u) {till : Nat} (ht : u.now ≤ till) (as : List Arrival) :
    s.since (u.elapse till as) :=
  State.since_ran h (u.ran_elapse till as ht) (State.clockInv_elapse h.clock ht as)

/-- While the bus of `s` is not open, whatever becomes of the bus later is after `s` too. -/
theorem State.since_of_closed {s u : State} (hs : s.busOpen = false) (h : s.since u) (o : Bool) (d : Option Dialect)
    (k : Option Handle) : s.since { u with busOpen := o, dialect := d, handle := k } :=
  ⟨State.clockInv_of_trace_eq h.clock rfl le_rfl, h.now, h.trace, h.par, fun ho => by simp [hs] at ho⟩

end Sys2Proof.Machine
end

section
/-! PROOFS. Every operation but STARTUP on an open bus leaves a state that comes after the one it began in. -/

namespace Sys2Proof.Machine

section Since

variable {s : State}

/-! The shared operations. -/

theorem keeps_of_face_eq {α : Type} {x : Op α} (h : ∀ u, (leaves x u).face = u.face) : Keeps s.since x :=
  fun u hu => State.since_of_face_eq hu (h u)

theorem keeps_modify {f : State → State} (h : ∀ u, (f u).face = u.face) : Keeps s.since (modify f : Op Unit) :=
  keeps_of_face_eq h

@[simp] theorem since_emit (e : Event) : Keeps s.since (emit e) := fun _ hu => State.since_emit hu e

@[simp] theorem since_setSup (p : SupPoint) : Keeps s.since (setSup p) := keeps_modify fun _ => rfl

@[simp] theorem since_setDfu (p : DfuPoint) : Keeps s.since (setDfu p) := keeps_modify fun _ => rfl

@[simp] theorem since_replyWith (r : Reply) : Keeps s.since (replyWith r) := keeps_modify fun _ => rfl

@[simp] theorem since_popBus : Keeps s.since popBus :=
  keeps_of_face_eq fun u => by unfold leaves popBus; cases u.inp.bus <;> rfl

@[simp] theorem since_popDialect1 : Keeps s.since popDialect1 :=
  keeps_of_face_eq fun u => by unfold leaves popDialect1; cases u.inp.dialect1 <;> rfl

@[simp] theorem since_popSleep : Keeps s.since popSleep :=
  keeps_of_face_eq fun u => by unfold leaves popSleep; cases u.inp.sleep <;> rfl

@[simp] theorem since_popIdle : Keeps s.since popIdle :=
  keeps_of_face_eq fun u => by unfold leaves popIdle; cases u.inp.idle <;> rfl

@[simp] theorem since_popOpen : Keeps s.since popOpen :=
  keeps_of_face_eq fun u => by unfold leaves popOpen; cases u.inp.opened <;> rfl

@[simp] theorem since_popBoot : Keeps s.since popBoot :=
  keeps_of_face_eq fun u => by unfold leaves popBoot; cases u.inp.boot <;> rfl

@[simp] theorem since_popLaunch : Keeps s.since popLaunch :=
  keeps_of_face_eq fun u => by unfold leaves popLaunch; cases u.inp.launch <;> rfl

@[simp] theorem since_popWall : Keeps s.since popWall :=
  keeps_of_face_eq fun u => by unfold leaves popWall; cases u.inp.wall <;> rfl

@[simp] theorem since_popAgent : Keeps s.since popAgent :=
  keeps_of_face_eq fun u => by unfold leaves popAgent; cases u.inp.agent <;> rfl

/-- A suspension ends after it began, where host power is cut in it too. -/
@[simp] theorem since_suspend (ms : Nat) (p : Susp) : Keeps s.since (suspend ms p) := by
  intro u hu
  obtain ⟨till, hle, -, h⟩ | h := suspend_cases ms p u
  · rw [leaves_error h]
    exact State.since_elapse hu hle _
  · rw [leaves_ok h]
    exact State.since_elapse hu (Nat.le_add_right _ _) _

theorem since_sleep (ms : Nat) : Keeps s.since (sleep ms) :=
  keeps_bind (since_emit _) fun _ => keeps_bind since_popSleep fun _ => since_suspend _ _

theorem State.since_takeLock {u : State} (h : s.since u) : s.since u.takeLock :=
  State.since_of_face_eq (State.since_emit h (.lock u.cur)) rfl

@[simp] theorem since_acquire (h : Hold) : Keeps s.since (acquire h) := by
  intro u hu
  obtain ⟨-, e⟩ | ⟨a, -, -, e⟩ | ⟨-, e⟩ := acquire_cases h u
  · rw [leaves_ok e]
    exact State.since_takeLock hu
  · rw [leaves_error e]
    exact State.since_of_face_eq hu rfl
  · rwa [leaves_error e]

@[simp] theorem since_unlock : Keeps s.since unlock := by
  intro u hu
  by_cases h : u.holder = some u.cur
  · rw [leaves_ok (unlock_holder h)]
    exact State.since_of_face_eq (State.since_emit hu _) rfl
  · rwa [leaves_error (unlock_other h)]

theorem since_underLock {α : Type} (h : Hold) {x : Op α} (hx : Keeps s.since x) : Keeps s.since (underLock h x) :=
  keeps_bind (since_acquire h) fun _ => keeps_bind (keeps_attempt hx) fun _ => keeps_bind since_unlock fun _ => keeps_pure _

/-! Transactions. -/

@[simp] theorem since_guardBus : Keeps s.since guardBus :=
  keeps_of_leaves_eq fun u => by
    obtain ⟨-, -, h⟩ | ⟨-, -, h⟩ | ⟨-, h⟩ := guardBus_cases u
    · exact leaves_ok h
    · exact leaves_error h
    · exact leaves_error h

theorem since_memRead (r : Byte) (n : Nat) : Keeps s.since (memRead r n) :=
  keeps_bind since_guardBus fun _ => keeps_bind since_popBus fun _ => keeps_bind (since_suspend _ _) fun _ =>
    keeps_get_bind fun _ hu => State.since_of_face_eq (State.since_emit hu _) rfl

/-- What a lost write leaves of the companion is not seen. -/
theorem since_onCut_lostWrite {α : Type} (r : Byte) (data : List Byte) {x : Op α} (hx : Keeps s.since x) :
    Keeps s.since (onCut (State.lostWrite · r data) x) := by
  intro u hu
  have hP := hx u hu
  unfold leaves onCut at *
  split at hP
  · simp_all
  · next e t h =>
    cases e with
    | cut => exact State.since_of_face_eq hP (by simp [h, State.face])
    | raise e => simpa [h] using hP
    | wait => simpa [h] using hP
    | stop f => simpa [h] using hP

theorem since_memWrite (r : Byte) (data : List Byte) : Keeps s.since (memWrite r data) :=
  keeps_bind since_guardBus fun _ => keeps_bind since_popBus fun _ =>
    keeps_bind (since_onCut_lostWrite r data (since_suspend _ _)) fun _ =>
      keeps_get_bind fun _ hu => State.since_of_face_eq (State.since_emit hu _) rfl

theorem since_retryLoop {α : Type} {t : Op (Except Failure α)} (ht : Keeps s.since t) (k : Nat) :
    Keeps s.since (retryLoop t k) := by
  induction k with
  | zero => exact keeps_bind ht fun r => by split <;> simp
  | succ k ih =>
    refine keeps_bind ht fun r => ?_
    split
    · exact keeps_pure _
    · exact keeps_ite (keeps_raise _) (keeps_bind (since_sleep _) fun _ => ih)

@[simp] theorem since_rdreg (r : Byte) (n : Nat) : Keeps s.since (rdreg r n) := since_retryLoop (since_memRead r n) _

@[simp] theorem since_wrreg (r : Byte) (data : List Byte) : Keeps s.since (wrreg r data) :=
  since_retryLoop (since_memWrite r data) _

/-! Typed reads and writes. -/

@[simp] theorem since_rdu8 (r : Byte) : Keeps s.since (rdu8 r) := keeps_bind (since_rdreg _ _) fun _ => keeps_pure _

@[simp] theorem since_rdword (r : Byte) : Keeps s.since (rdword r) := keeps_bind (since_rdreg _ _) fun _ => keeps_pure _

@[simp] theorem since_rdu32 (r : Byte) : Keeps s.since (rdu32 r) := keeps_bind (since_rdreg _ _) fun _ => keeps_pure _

theorem since_runDialect1 (l : List Dialect1Txn) : Keeps s.since (runDialect1 l) := by
  induction l with
  | nil => exact keeps_pure _
  | cons x rest ih =>
    cases x with
    | read r n => exact keeps_bind (since_rdreg _ _) fun _ => keeps_bind ih fun _ => keeps_pure _
    | write r data => exact keeps_bind (since_wrreg _ _) fun _ => ih

@[simp] theorem since_traffic : Keeps s.since traffic := keeps_modify fun _ => rfl

theorem since_unstatedTrace (l : List Susp) : Keeps s.since (unstatedTrace l) := by
  induction l with
  | nil => exact keeps_pure _
  | cons p rest ih => exact keeps_bind (since_suspend _ _) fun _ => keeps_bind since_traffic fun _ => ih

theorem since_unfixedDialect1 (r : Byte) : Keeps s.since (unfixedDialect1 r) :=
  keeps_bind since_guardBus fun _ => keeps_bind since_popDialect1 fun d => keeps_bind (since_unstatedTrace _) fun _ =>
    keeps_bind (since_suspend _ _) fun _ => keeps_bind (since_emit _) fun _ => by
      split
      · exact keeps_bind since_traffic fun _ => keeps_pure _
      · exact keeps_raise _

theorem since_fixedDialect1 (r : Byte) (c : Dialect1Read) : Keeps s.since (fixedDialect1 r c) :=
  keeps_bind (since_runDialect1 _) fun _ => by
    split
    · exact keeps_pure _
    · exact since_unfixedDialect1 r

theorem since_dialect1U16 (r : Byte) : Keeps s.since (dialect1U16 r) :=
  keeps_bind keeps_get fun u => by
    split
    · exact since_unfixedDialect1 r
    · split
      · exact since_fixedDialect1 r _
      · exact since_unfixedDialect1 r

@[simp] theorem since_rdu16 (r : Byte) : Keeps s.since (rdu16 r) :=
  keeps_bind keeps_get fun u => by
    split
    · exact since_rdword r
    · exact since_dialect1U16 r
    · exact keeps_stop _

theorem since_wruN (k : Nat) (r : Byte) (v : Nat) : Keeps s.since (wruN k r v) :=
  keeps_ite (since_wrreg _ _) (keeps_stop _)

@[simp] theorem since_wru8 (r : Byte) (v : Nat) : Keeps s.since (wru8 r v) := since_wruN 1 r v

@[simp] theorem since_wru16 (r : Byte) (v : Nat) : Keeps s.since (wru16 r v) := since_wruN 2 r v

@[simp] theorem since_wru32 (r : Byte) (v : Nat) : Keeps s.since (wru32 r v) := since_wruN 4 r v

/-! Named registers. -/

@[simp] theorem since_rdDevid : Keeps s.since rdDevid := since_rdreg _ _

@[simp] theorem since_rdWdt : Keeps s.since rdWdt := since_rdu16 _

@[simp] theorem since_rdPon : Keeps s.since rdPon := since_rdu16 _

@[simp] theorem since_wrPon (v : Nat) : Keeps s.since (wrPon v) := since_wru16 _ _

@[simp] theorem since_rdHwver : Keeps s.since rdHwver := keeps_bind (since_rdreg _ _) fun _ => keeps_pure _

@[simp] theorem since_rdFwver : Keeps s.since rdFwver := keeps_bind (since_rdreg _ _) fun _ => keeps_pure _

@[simp] theorem since_rdPstate : Keeps s.since rdPstate := keeps_bind (since_rdu8 _) fun _ => keeps_pure _

@[simp] theorem since_readMeasurements : Keeps s.since readMeasurements :=
  keeps_bind (since_rdu16 _) fun _ => keeps_bind (since_rdu16 _) fun _ => keeps_bind (since_rdu16 _) fun _ =>
    keeps_bind (since_rdu16 _) fun _ => keeps_bind (since_rdu16 _) fun _ => keeps_bind since_rdPstate fun _ => keeps_pure _

@[simp] theorem since_wdArm : Keeps s.since wdArm := since_wru16 _ _

@[simp] theorem since_wdFeed : Keeps s.since wdFeed := since_wru16 _ _

@[simp] theorem since_wdDisable : Keeps s.since wdDisable := since_wru16 _ _

@[simp] theorem since_getUsb (p : Int) : Keeps s.since (getUsb p) :=
  keeps_ite (keeps_bind (since_rdu8 _) fun _ => keeps_ite (keeps_pure _) (keeps_ite (keeps_pure _) (keeps_raise _)))
    (keeps_raise _)

@[simp] theorem since_setUsb (p : Int) (on : Bool) : Keeps s.since (setUsb p on) :=
  keeps_ite (since_wru8 _ _) (keeps_raise _)

@[simp] theorem since_requestShutdown : Keeps s.since requestShutdown := since_wru8 _ _

@[simp] theorem since_requestStandby (seconds : Nat) : Keeps s.since (requestStandby seconds) :=
  keeps_bind keeps_get fun _ => keeps_ite (since_wrreg _ _) (keeps_stop _)

/-! The DFU engine. -/

@[simp] theorem since_frame (i : Nat) (d : List Byte) : Keeps s.since (frame i d) := keeps_ite (keeps_pure _) (keeps_stop _)

@[simp] theorem since_dfuStart (n : Nat) : Keeps s.since (dfuStart n) := keeps_ite (since_wru32 _ _) (keeps_raise _)

@[simp] theorem since_dfuStatus : Keeps s.since dfuStatus :=
  keeps_bind (since_rdu8 _) fun _ => keeps_bind (keeps_modify fun _ => rfl) fun _ => keeps_pure _

@[simp] theorem since_dfuBw : Keeps s.since dfuBw := since_rdu16 _

@[simp] theorem since_dfuBlock (i : Nat) (d : List Byte) : Keeps s.since (dfuBlock i d) :=
  keeps_bind (since_frame _ _) fun _ => since_wrreg _ _

@[simp] theorem since_dfuCommit : Keeps s.since dfuCommit := since_wru8 _ _

@[simp] theorem since_dfuAbort : Keeps s.since dfuAbort := since_wru8 _ _

theorem since_prewaitLoop (i start k : Nat) : Keeps s.since (prewaitLoop i start k) := by
  induction k with
  | zero => exact keeps_raise _
  | succ k ih =>
    refine keeps_bind since_dfuStatus fun st => ?_
    split
    · exact keeps_pure _
    · exact keeps_raise _
    · exact keeps_bind keeps_get fun _ => keeps_ite (keeps_raise _) (keeps_ite (keeps_raise _)
        (keeps_bind (since_sleep _) fun _ => ih))

@[simp] theorem since_prewait (i : Nat) : Keeps s.since (prewait i) :=
  keeps_bind (since_setDfu _) fun _ => keeps_bind keeps_get fun _ => keeps_ite (keeps_raise _)
    (keeps_bind (since_sleep _) fun _ => keeps_bind keeps_clock fun _ => since_prewaitLoop _ _ _)

@[simp] theorem since_dfuSend (i : Nat) : Keeps s.since (dfuSend i) :=
  keeps_bind (since_setDfu _) fun _ => keeps_bind keeps_get fun _ => since_dfuBlock _ _

theorem since_noteProgress (i total : Nat) : Keeps s.since (noteProgress i total) :=
  keeps_bind (since_setDfu _) fun _ => fun _ hu => State.since_of_face_eq (State.since_emit hu _) rfl

theorem since_sendBlocks (total k i : Nat) : Keeps s.since (sendBlocks total k i) := by
  induction k generalizing i with
  | zero => exact keeps_pure _
  | succ k ih =>
    exact keeps_bind (since_prewait _) fun _ => keeps_bind (since_dfuSend _) fun _ =>
      keeps_bind (since_noteProgress _ _) fun _ => ih _

theorem since_drainLoop (total start k : Nat) : Keeps s.since (drainLoop total start k) := by
  induction k with
  | zero => exact keeps_raise _
  | succ k ih =>
    refine keeps_bind since_dfuStatus fun st => ?_
    split
    · exact keeps_raise _
    · exact keeps_bind (since_sleep _) fun _ => keeps_bind since_dfuBw fun _ => keeps_ite (keeps_pure _)
        (keeps_bind keeps_get fun _ => keeps_ite (keeps_ite (keeps_raise _) (keeps_raise _))
          (keeps_bind (since_sleep _) fun _ => ih))

@[simp] theorem since_drain (total : Nat) : Keeps s.since (drain total) :=
  keeps_bind (since_setDfu _) fun _ => keeps_bind keeps_clock fun _ => since_drainLoop _ _ _

@[simp] theorem since_commitSeq : Keeps s.since commitSeq :=
  keeps_bind (since_setDfu _) fun _ => keeps_bind (since_sleep _) fun _ => since_dfuCommit

@[simp] theorem since_abortSeq : Keeps s.since abortSeq :=
  keeps_bind (since_setDfu _) fun _ => keeps_bind (since_sleep _) fun _ =>
    keeps_bind (keeps_attempt since_dfuAbort) fun _ => keeps_pure _

theorem since_sessionBody (n : Nat) : Keeps s.since (sessionBody n) :=
  keeps_bind (since_setDfu _) fun _ => keeps_bind (since_dfuStart _) fun _ => keeps_bind (since_sendBlocks _ _ _) fun _ =>
    keeps_bind (since_drain _) fun _ => since_commitSeq

theorem since_endSession : Keeps s.since endSession :=
  keeps_bind (keeps_modify fun _ => rfl) fun _ => keeps_bind since_unlock fun _ => since_setDfu _

@[simp] theorem since_uploadFrom (h : Hold) (image : List Byte) : Keeps s.since (uploadFrom h image) :=
  keeps_bind (since_acquire h) fun _ => keeps_bind (keeps_modify fun _ => rfl) fun _ =>
    keeps_bind (keeps_attempt (since_sessionBody _)) fun r => by
      split
      · exact since_endSession
      · exact keeps_bind since_abortSeq fun _ => keeps_bind since_endSession fun _ => keeps_raise _

@[simp] theorem since_dfuUpload (h : Hold) (image : List Byte) : Keeps s.since (dfuUpload h image) :=
  keeps_bind (since_setDfu _) fun _ => keeps_ite (since_uploadFrom _ _) (keeps_raise _)

/-! The control port's requests. -/

theorem since_replying {x : Op Reply} (hx : Keeps s.since x) : Keeps s.since (replying x) :=
  keeps_bind hx fun _ => keeps_bind (since_replyWith _) fun _ => keeps_pure _

theorem since_orImmediate (i : Instr) {x : Op Reply} (hx : Keeps s.since x) : Keeps s.since (orImmediate i x) :=
  keeps_get_bind fun u hu => by
    split
    · exact State.since_of_face_eq hu rfl
    · exact hx u hu

theorem since_answered (i : Instr) : Keeps s.since (answered i) := since_orImmediate i (keeps_pure _)

@[simp] theorem since_cSnapshot : Keeps s.since cSnapshot :=
  keeps_bind (since_underLock _ since_readMeasurements) fun r => by
    split
    · exact keeps_bind (keeps_modify fun _ => rfl) fun _ => keeps_pure _
    · exact keeps_pure _

@[simp] theorem since_cGetUsb (p : Int) : Keeps s.since (cGetUsb p) :=
  keeps_bind (since_underLock _ (since_getUsb p)) fun _ => keeps_pure _

@[simp] theorem since_cSetUsb (p : Int) (on : Bool) : Keeps s.since (cSetUsb p on) :=
  keeps_bind (since_underLock _ (since_setUsb p on)) fun _ => keeps_pure _

@[simp] theorem since_cShutdown : Keeps s.since cShutdown :=
  keeps_bind (since_underLock _ since_requestShutdown) fun _ => keeps_bind (keeps_modify fun _ => rfl) fun _ => keeps_pure _

@[simp] theorem since_standbyWrite (seconds : Nat) : Keeps s.since (standbyWrite seconds) :=
  keeps_bind (since_underLock _ (since_requestStandby seconds)) fun _ => keeps_pure _

@[simp] theorem since_cStandby (arg : StandbyArg) : Keeps s.since (cStandby arg) := by
  cases arg with
  | delay d => exact since_standbyWrite _
  | datetime w => exact keeps_bind since_popWall fun _ => since_standbyWrite _
  | other given => exact keeps_pure _

theorem since_cUpload {x : Op Unit} (hx : Keeps s.since x) : Keeps s.since (cUpload x) :=
  keeps_bind (keeps_attempt hx) fun _ => keeps_pure _

/-! The supervisor. -/

@[simp] theorem since_exitFrom (code : Fin 3) : Keeps s.since (exitFrom code) :=
  keeps_bind (since_acquire _) fun _ => keeps_bind (keeps_attempt since_wdDisable) fun _ =>
    keeps_bind since_unlock fun _ => fun _ hu => State.since_of_face_eq (State.since_emit hu (.exit code)) rfl

@[simp] theorem since_exitSeq (code : Fin 3) : Keeps s.since (exitSeq code) :=
  keeps_bind (since_setSup _) fun _ => since_exitFrom code

@[simp] theorem since_noteFed (now : Nat) : Keeps s.since (noteFed now) := keeps_modify fun _ => rfl

@[simp] theorem since_endTickIfFatal (e : TransportError) : Keeps s.since (endTickIfFatal e) :=
  keeps_bind keeps_get fun _ => keeps_ite (keeps_raise _) (keeps_pure _)

@[simp] theorem since_startStep (now : Nat) : Keeps s.since (startStep now) :=
  keeps_bind (keeps_attemptTransport since_wdArm) fun r => by
    split
    · exact keeps_modify fun _ => rfl
    · exact since_endTickIfFatal _

@[simp] theorem since_takeSampleOp : Keeps s.since takeSampleOp :=
  keeps_bind (keeps_attemptTransport since_readMeasurements) fun r => by
    split
    · exact keeps_bind (keeps_modify fun _ => rfl) fun _ => keeps_pure _
    · exact keeps_bind (since_endTickIfFatal _) fun _ => keeps_pure _

@[simp] theorem since_feedIfDue (now : Nat) : Keeps s.since (feedIfDue now) :=
  keeps_bind keeps_get fun _ => keeps_ite
    (keeps_bind (keeps_attemptTransport since_wdFeed) fun r => by split <;> simp) (keeps_pure _)

theorem since_launch : Keeps s.since shutdownSeq.launch :=
  keeps_bind keeps_get fun _ => keeps_ite (keeps_modify fun _ => rfl)
    (keeps_bind since_popLaunch fun _ => keeps_bind (since_emit _) fun _ =>
      keeps_ite (keeps_modify fun _ => rfl) (keeps_modify fun _ => rfl))

@[simp] theorem since_shutdownSeq : Keeps s.since shutdownSeq :=
  keeps_bind keeps_get fun _ => keeps_ite since_launch
    (keeps_bind (keeps_attempt since_requestShutdown) fun _ => keeps_bind (keeps_modify fun _ => rfl) fun _ => since_launch)

theorem since_finalFeed (now : Nat) : Keeps s.since (finalFeed now) :=
  keeps_bind (keeps_attemptTransport since_wdFeed) fun r => by split <;> simp

@[simp] theorem since_enterShutdown (now : Nat) : Keeps s.since (enterShutdown now) :=
  keeps_bind (keeps_modify fun _ => rfl) fun _ => keeps_bind (since_finalFeed now) fun _ => since_shutdownSeq

@[simp] theorem since_actOnIntent (now : Nat) : Keeps s.since (actOnIntent now) :=
  keeps_bind (keeps_modify fun _ => rfl) fun _ => since_enterShutdown now

@[simp] theorem since_okStep (vlim : Rat) (r : Sample) (now : Nat) : Keeps s.since (okStep vlim r now) :=
  keeps_bind keeps_get fun _ => by
    split
    · exact keeps_ite (keeps_modify fun _ => rfl) (keeps_pure _)
    · exact keeps_pure _

@[simp] theorem since_blackoutStep (vlim tlim : Rat) (r : Sample) (now : Nat) :
    Keeps s.since (blackoutStep vlim tlim r now) :=
  keeps_bind keeps_get fun _ => by
    split
    · refine keeps_ite (keeps_modify fun _ => rfl) ?_
      split <;> simp
    · exact keeps_pure _

@[simp] theorem since_fsmStepAt (vlim tlim : Rat) (r : Sample) (now : Nat) : Keeps s.since (fsmStepAt vlim tlim r now) :=
  keeps_bind keeps_get fun _ => by
    split
    · exact keeps_pure _
    · exact keeps_bind (keeps_modify fun _ => rfl) fun _ => since_shutdownSeq
    · exact keeps_ite (since_actOnIntent now) (keeps_pure _)
    · exact keeps_ite (since_actOnIntent now) (since_okStep vlim r now)
    · exact keeps_ite (since_actOnIntent now) (since_blackoutStep vlim tlim r now)

theorem since_tickBody (vlim tlim : Rat) : Keeps s.since (tickBody vlim tlim) :=
  keeps_bind keeps_clock fun now => keeps_bind keeps_get fun _ => keeps_ite (since_startStep now)
    (keeps_bind (since_setSup _) fun _ => keeps_bind since_takeSampleOp fun _ => keeps_bind (since_setSup _) fun _ =>
      keeps_bind (since_feedIfDue now) fun _ => keeps_bind (since_setSup _) fun _ => since_fsmStepAt _ _ _ _)

@[simp] theorem since_tickFrom (vlim tlim : Rat) : Keeps s.since (tickFrom vlim tlim) :=
  keeps_bind (since_acquire _) fun _ => keeps_bind (keeps_attempt (since_tickBody vlim tlim)) fun r =>
    keeps_bind since_unlock fun _ => by split <;> simp

@[simp] theorem since_tick : Keeps s.since tick :=
  keeps_bind keeps_get fun _ => keeps_bind (keeps_modify fun _ => rfl) fun _ => keeps_ite (since_exitFrom 0)
    (keeps_ite (keeps_pure _) (since_tickFrom _ _))

/-! STARTUP. -/

@[simp] theorem since_exitBeforeBus (code : Fin 3) (e : Err) : Keeps s.since (exitBeforeBus code e) :=
  fun _ hu => State.since_of_face_eq (State.since_emit hu (.exit code)) rfl

@[simp] theorem since_startAgents : Keeps s.since startAgents := keeps_modify fun _ => rfl

theorem since_firstArm : Keeps s.since firstArm :=
  keeps_bind (keeps_attemptTransport since_wdArm) fun r => by
    split
    · exact keeps_bind (keeps_modify fun _ => rfl) fun _ => keeps_bind since_unlock fun _ => since_startAgents
    · exact keeps_ite (keeps_bind since_unlock fun _ => since_exitSeq 1)
        (keeps_bind (keeps_modify fun _ => rfl) fun _ => keeps_bind since_unlock fun _ => since_startAgents)

/-- STARTUP sets the dialect, which a bus not open before does not have to keep. -/
theorem since_startOnBus (hs : s.busOpen = false) : Keeps s.since startOnBus :=
  keeps_bind (since_acquire _) fun _ => keeps_bind (keeps_attemptTransport since_rdFwver) fun r => by
    split
    · exact keeps_bind since_unlock fun _ => keeps_bind (keeps_modify fun _ => rfl) fun _ => since_exitSeq 1
    · exact keeps_bind (fun _ hu => State.since_of_closed hs hu _ _ _) fun _ => since_firstArm

theorem since_openBus (hs : s.busOpen = false) (c : Cfg) : Keeps s.since (openBus c) :=
  keeps_bind (keeps_modify fun _ => rfl) fun _ => keeps_bind since_popOpen fun o => keeps_bind (since_suspend _ _) fun _ =>
    keeps_bind (since_emit _) fun _ => by
      split
      · exact since_exitBeforeBus _ _
      · exact keeps_bind (fun _ hu => State.since_of_closed hs hu _ _ _) fun _ => since_startOnBus hs

theorem since_guardReset : Keeps s.since guardReset :=
  keeps_bind keeps_get fun _ => keeps_ite (keeps_stop _) (keeps_pure _)

/-- On an open bus STARTUP stops at once (70_reset R708). -/
theorem startup_open {u : State} (h : u.busOpen = true) : startup u = .error (.stop .alreadyStarted) u := by
  refine Op.bind_error ?_
  unfold guardReset
  rw [Op.bind_ok (Op.get_run u)]
  simp [h]

@[simp] theorem since_startup : Keeps s.since startup := by
  cases hs : s.busOpen with
  | true =>
    intro u hu
    obtain ⟨ho, -⟩ := hu.bus hs
    rwa [leaves_error (startup_open ho)]
  | false =>
    exact keeps_bind since_guardReset fun _ => keeps_bind since_popBoot fun _ => keeps_bind keeps_get fun _ => by
      split
      · exact since_exitBeforeBus _ _
      · exact since_openBus hs _

end Since

end Sys2Proof.Machine
end

section
/-! PROOFS. Where no agent waits to go on with a reset, the step lemma of the clock (O58) holds. -/

namespace Sys2Proof.Machine

/-- `t` comes after `s`, or is what a host power cut leaves of a state that does. -/
def State.leadsTo (s t : State) : Prop := s.since t ∨ ∃ u, s.since u ∧ t = u.powerCut

section LeadsTo

variable {s u t : State}

/-! Ends of operations. -/

theorem finish_leadsTo {x : Op Result} (hx : Keeps s.since x) (hu : s.since u) (h : finish x u = .next t) :
    s.leadsTo t := by
  have hv := hx u hu
  obtain ⟨r, v, e, rfl⟩ | ⟨r, v, e, rfl⟩ | e | ⟨v, e, rfl⟩ := finish_next h
  · rw [leaves_ok e] at hv
    exact .inl (State.since_of_face_eq hv rfl)
  · rw [leaves_error e] at hv
    exact .inl (State.since_of_face_eq hv rfl)
  · rw [leaves_error e] at hv
    exact .inl hv
  · rw [leaves_error e] at hv
    exact .inr ⟨v, hv, rfl⟩

theorem exec_leadsTo (i : Instr) (hu : s.since u) (h : exec i u = .next t) : s.leadsTo t := by
  cases i
  case rdreg | rdHwver | rdFwver | rdDevid | rdWdt | rdPon | rdVin | rdVscap | rdIin | rdTmcu | rdTpcb | rdPstate | rdUsb0 |
      rdUsb1 | rdUsb2 | rdUsb3 | rdDfuStatus | rdDfuBw | rdu8 | rdu16 | rdu32 | rdword | readMeasurements | getUsb | frame =>
    exact finish_leadsTo (keeps_giving (by simp)) hu h
  case crc32 | partition => exact finish_leadsTo (keeps_giving (keeps_pure _)) hu h
  case wrreg | wdArm | wdFeed | wdDisable | wrPon | wrUsb0 | wrUsb1 | wrUsb2 | wrUsb3 | wrShutdown | wrStandby | wrDfuStart |
      wrDfuBlock | wrDfuCommit | wrDfuAbort | wru8 | wru16 | wru32 | setUsb | requestShutdown | requestStandby | tick |
      fsmStep | shutdownSeq | exitSeq | startup | dfuUpload | dfuPrewait | dfuSend | dfuDrain | dfuCommitSeq | dfuAbortSeq =>
    exact finish_leadsTo (keeps_doing (by simp)) hu h
  case cSnapshot | cShutdown => exact finish_leadsTo (since_replying (by simp)) hu h
  case cGetConfig | cSetConfig => exact finish_leadsTo (since_replying (since_answered _)) hu h
  case cGetUsb | cSetUsb | cStandby => exact finish_leadsTo (since_replying (since_orImmediate _ (by simp))) hu h
  case cUpload => exact finish_leadsTo (since_replying (since_cUpload (by simp))) hu h

/-! The operation port. -/

/-- The end of a port's hold shows one event at the most, and none after a power cut, which leaves the lock free. -/
theorem State.leadsTo_releasePort (h : s.leadsTo t) : s.leadsTo t.releasePort := by
  obtain h | ⟨v, hv, rfl⟩ := h
  · refine .inl ?_
    unfold State.releasePort
    split
    · exact State.since_of_face_eq (State.since_emit h _) rfl
    · exact h
  · exact .inr ⟨v, hv, by simp [State.releasePort]⟩

theorem execHeld_leadsTo (i : Instr) (hu : s.since u) (h : execHeld i u = .next t) : s.leadsTo t := by
  unfold execHeld at h
  split at h
  · split at h
    · next e =>
      cases h
      exact State.leadsTo_releasePort (exec_leadsTo i (State.since_takeLock hu) e)
    · cases h
    · cases h
  · exact exec_leadsTo i hu h

theorem issue_leadsTo (i : Instr) (hu : s.since u) (h : issue i u = .next t) : s.leadsTo t := by
  unfold issue at h
  split at h
  · exact execHeld_leadsTo i hu h
  · exact exec_leadsTo i hu h

/-! The block's own runs. -/

/-- Going on from `Lock()`, but not with a second reset (70_reset R708). -/
theorem since_resume {k : Hold} (hk : k ≠ .startup) : Keeps s.since (resume k) := by
  cases k with
  | startup => exact absurd rfl hk
  | tick v l => exact keeps_doing (since_tickFrom v l)
  | exit code => exact keeps_doing (since_exitFrom code)
  | upload image => exact keeps_doing (since_uploadFrom _ _)
  | snapshot => exact since_replying since_cSnapshot
  | getUsb p => exact since_replying (since_cGetUsb p)
  | setUsb p on => exact since_replying (since_cSetUsb p on)
  | shutdown => exact since_replying since_cShutdown
  | standby seconds => exact since_replying (since_standbyWrite seconds)
  | uploadRequest image => exact since_replying (since_cUpload (since_uploadFrom _ _))

theorem runRequest_leadsTo (k : Nat) (hu : s.since u) (h : runRequest k u = .next t) : s.leadsTo t := by
  have hv : s.since { u.markRunning k with cur := .ctrl k } := State.since_of_face_eq hu rfl
  unfold runRequest at h
  split at h
  · cases h
    exact .inl hu
  · split at h
    · exact exec_leadsTo _ hv h
    · exact finish_leadsTo (since_replying (keeps_pure _)) hv h

theorem since_idle : Keeps s.since idle :=
  keeps_bind since_popIdle fun _ => keeps_bind keeps_get fun _ => since_suspend _ _

theorem runIdle_leadsTo (hu : s.since u) (h : runIdle u = .next t) : s.leadsTo t := by
  have hv := since_idle u hu
  unfold runIdle at h
  split at h
  case h_1 e | h_4 e | h_5 e =>
    cases h
    rw [leaves, e] at hv
    exact .inl hv
  case h_2 v e =>
    cases h
    rw [leaves, e] at hv
    exact .inr ⟨v, hv, rfl⟩
  case h_3 => cases h

theorem runTask_leadsTo {k : Task} (hk : ∀ w, k = .resume w → w.hold ≠ .startup) (hu : s.since u)
    (h : runTask k u = .next t) : s.leadsTo t := by
  cases k with
  | tick =>
    have hv : s.since { u with cur := .supervisor } := State.since_of_face_eq hu rfl
    exact exec_leadsTo .tick hv h
  | request k => exact runRequest_leadsTo k hu h
  | resume w =>
    have hv : s.since { u with cur := w.agent, waiters := u.waiters.erase w } := State.since_of_face_eq hu rfl
    exact finish_leadsTo (since_resume (hk w rfl)) hv h
  | send a =>
    cases h
    exact .inl (State.since_ran hu (u.ran_send a) (State.clockInv_send hu.clock a))
  | pass => exact runIdle_leadsTo hu h

/-- Who goes on from `Lock()` waits there. -/
theorem State.mem_waiters_of_mem_tasks {w : Waiter} (h : .resume w ∈ u.tasks) : w ∈ u.waiters := by
  have hdue : .resume w ∈ u.due := by simpa [State.tasks, State.ipc, or_assoc] using h
  have hwait : u.holder = none ∧ w ∈ u.waiters := by simpa [State.due] using hdue
  exact hwait.2

theorem schedule_leadsTo (hw : ∀ w ∈ u.waiters, w.hold ≠ .startup) (hu : s.since u) (h : schedule u = .next t) :
    s.leadsTo t := by
  have harm : s.since u.arm := State.since_ran hu u.ran_arm (State.clockInv_of_trace_eq hu.clock u.arm_trace u.ran_arm.now)
  unfold schedule at h
  split at h
  · exact runIdle_leadsTo harm h
  · next k ks htasks =>
    have hv := since_popAgent _ harm
    split at h
    · next n v e =>
      rw [leaves_ok e] at hv
      refine runTask_leadsTo (fun w hk => hw w ?_) hv h
      have hlt : n % (ks.length + 1) < (k :: ks).length := Nat.mod_lt n ks.length.succ_pos
      rw [← u.arm_waiters]
      apply State.mem_waiters_of_mem_tasks
      rw [htasks, ← hk, List.getD_eq_getElem _ _ hlt]
      exact List.getElem_mem _
    · next e =>
      cases h
      rw [leaves_error e] at hv
      exact .inl hv

end LeadsTo

/-- From a state whose trace is in the clock's order and in which no agent waits to go on with a reset, a step leads to a state
that comes after it. -/
theorem step_leadsTo {s t : State} (hs : s.clockInv) (hw : ∀ w ∈ s.waiters, w.hold ≠ .startup) (h : step s = .next t) :
    s.leadsTo t := by
  have hrefl := State.since_refl hs
  unfold step agentStep at h
  split at h
  · cases h
    exact .inl hrefl
  · split at h
    · split at h
      · exact schedule_leadsTo hw hrefl h
      · exact exec_leadsTo .startup hrefl h
    · next rest _ =>
      have hv : s.since { s with opPort := rest } := State.since_of_face_eq hrefl rfl
      split at h
      · exact issue_leadsTo _ hv h
      · cases h

/-- `blockInv` lets no agent wait to go on with a second reset (70_reset R708). -/
theorem State.blockInv_ne_startup {s : State} (hs : s.blockInv) {w : Waiter} (hw : w ∈ s.waiters) : w.hold ≠ .startup := by
  obtain ⟨-, -, -, -, haccepted⟩ := hs
  intro hreset
  have hw := haccepted w hw
  rwa [hreset] at hw

/-- The conclusion of O58 holds of every state that meets `blockInv` too, the hypothesis that O58 leaves out. -/
theorem step_keeps_clock_of_blockInv {s t : State} (hs : s.clockInv) (hb : s.blockInv) (h : step s = .next t) :
    t.clockInv ∧ s.now ≤ t.now ∧ (∃ es, t.trace = s.trace ++ es) ∧ t.par = s.par ∧
      (s.busOpen = true → t.wasCut ∨ (t.busOpen = true ∧ t.dialect = s.dialect ∧ t.handle = s.handle)) := by
  have hlead : s.leadsTo t := step_leadsTo hs (fun _ hw => State.blockInv_ne_startup hb hw) h
  obtain ⟨hclock, hnow, htrace, hpar, hbus⟩ | ⟨u, ⟨hclock, hnow, ⟨es, htrace⟩, hpar, -⟩, rfl⟩ := hlead
  · exact ⟨hclock, hnow, htrace, hpar, fun ho => .inr (hbus ho)⟩
  · exact ⟨State.clockInv_of_trace_snoc hclock rfl le_rfl, hnow, ⟨es ++ [(u.now, .powerCut)], by simp [htrace]⟩, hpar,
      fun _ => .inl ⟨u, rfl⟩⟩

end Sys2Proof.Machine
end

section
/-! PROOFS. The step lemma of the clock (O58) fails in a started block where an agent waits at `Lock()` to go on with a reset. -/

namespace Sys2Proof.Machine

/-- A started block on a dialect-1 bus whose supervisor waits at `Lock()` to go on with a reset: the one wait that `blockInv`
excludes (70_reset R708) and `clockInv` does not. The next answers of the companion are firmware version 2 and a success. -/
def resetWaiting : State :=
  { State.initial ⟨1, 1, 1, 1, 1, 1, 0, .unfixed, false, 0, 0, 0, 0, 0, []⟩ with
    busOpen := true
    dialect := some .one
    handle := some ⟨0, 0⟩
    pcSup := .waitLock
    up := true
    waiters := [⟨.supervisor, .startup⟩]
    inp := { Inputs.unsettled with
      bus := [⟨⟨0, [], false⟩, .data [2, 0, 0, 0xFF]⟩, ⟨⟨0, [], false⟩, .data []⟩]
      agent := [0] } }

/-- The second reset takes the dialect of the open bus anew from the firmware version it reads. -/
theorem step_resetWaiting : ∃ t, step resetWaiting = .next t ∧ t.busOpen = true ∧ t.dialect = some .two :=
  ⟨_, rfl, rfl, rfl⟩

/-- Refutes O58: in `resetWaiting` the step changes the dialect of the open bus, and host power is not cut. -/
theorem not_stepKeepsClock : ¬ Obligations.StepKeepsClock := by
  unfold Obligations.StepKeepsClock
  intro h
  obtain ⟨t, ht, hopen, hnew⟩ := step_resetWaiting
  obtain ⟨-, -, -, -, hbus⟩ := h resetWaiting t ⟨.nil, nofun⟩ ht
  obtain ⟨u, rfl⟩ | ⟨-, hsame, -⟩ := hbus rfl
  · cases hopen
  · rw [hnew] at hsame
    cases hsame

end Sys2Proof.Machine
end

section
/-! PROOFS. What lands at a suspension point, one change at a time: a predicate that every such change keeps is kept by the whole
suspension. -/

namespace Sys2Proof.Machine

/-! Configuration values and delays that requests let through. -/

theorem asRatIn_range {lo hi q : Rat} {v : CfgValue} (h : asRatIn lo hi v = some q) : lo ≤ q ∧ q ≤ hi := by
  unfold asRatIn at h
  split at h
  · split at h
    · next hq =>
      cases h
      exact hq
    · cases h
  · cases h

theorem asAddress_range {v : CfgValue} {a : BitVec 7} (h : asAddress v = some a) : 0x08 ≤ a.toNat ∧ a.toNat ≤ 0x77 := by
  unfold asAddress at h
  split at h
  · split at h
    · cases h
      simp only [BitVec.toNat_ofNat]
      omega
    · cases h
  · cases h
  · cases h

theorem cfgValid_iff (c : Cfg) : cfgValid c = true ↔
    (0 ≤ c.vlim ∧ c.vlim ≤ 30) ∧ (1 / 10 ≤ c.tlim ∧ c.tlim ≤ 600) ∧ 0x08 ≤ c.deviceAddress.toNat ∧ c.deviceAddress.toNat ≤ 0x77 := by
  simp only [cfgValid, Bool.and_eq_true, decide_eq_true_eq, and_assoc]

/-- A field set to a value of its range leaves a valid configuration valid (70_reset R703, 45_control R460). -/
theorem setField_valid {c d : Cfg} {f : CfgField} {v : CfgValue} (h : setField c f v = some d) (hc : cfgValid c = true) :
    cfgValid d = true := by
  rw [cfgValid_iff] at *
  obtain ⟨hv, ht, ha⟩ := hc
  unfold setField at h
  cases f with
  | vlim =>
    obtain ⟨x, hx, rfl⟩ := Option.map_eq_some_iff.mp h
    exact ⟨asRatIn_range hx, ht, ha⟩
  | tlim =>
    obtain ⟨x, hx, rfl⟩ := Option.map_eq_some_iff.mp h
    exact ⟨hv, asRatIn_range hx, ha⟩
  | deviceAddress =>
    obtain ⟨x, hx, rfl⟩ := Option.map_eq_some_iff.mp h
    exact ⟨hv, ht, asAddress_range hx⟩
  | busIndex | socketPath | socketGroup | poweroff =>
    obtain ⟨x, -, rfl⟩ := Option.map_eq_some_iff.mp h
    exact ⟨hv, ht, ha⟩

/-- A request answered at once leaves a valid configuration valid (45_control R453). -/
theorem immediateReply_valid {c d : Cfg} {i : Instr} {r : Reply} (h : immediateReply c i = some (r, d))
    (hc : cfgValid c = true) : cfgValid d = true := by
  unfold immediateReply at h
  split at h
  case h_3 =>
    split at h
    · cases h
      exact hc
    · split at h
      · next hset =>
        cases h
        exact setField_valid hset hc
      · cases h
        exact hc
  all_goals grind

theorem imageSizeLegal_iff (n : Nat) : imageSizeLegal n = true ↔ 1 ≤ n ∧ n ≤ 268431360 := by
  rw [imageSizeLegal, Bool.and_eq_true, decide_eq_true_eq, decide_eq_true_eq]
  rfl

theorem clampDelay_lt (v : Int) : clampDelay v < 2 ^ 32 := by
  unfold clampDelay standbyMax
  omega

/-- What the supervisor goes to `Lock()` for (42_power_fsm R301, R331). -/
def Hold.ofSupervisor (h : Hold) : Prop := (∃ v l, h = .tick v l) ∨ ∃ c, h = .exit c

theorem State.tickHold_ofSupervisor {s : State} {h : Hold} (e : s.tickHold = some h) : h.ofSupervisor ∧ h.accepted := by
  unfold State.tickHold at e
  split at e
  · cases e
    exact ⟨.inr ⟨_, rfl⟩, trivial⟩
  · split at e
    · cases e
    · cases e
      exact ⟨.inl ⟨_, _, rfl⟩, trivial⟩

theorem popWall_eq (s : State) : ∃ w p, popWall s = .ok w { s with inp := p } := by
  unfold popWall
  split <;> exact ⟨_, _, rfl⟩

/-- What a request that is not answered at once goes to `Lock()` for was accepted before it (44_dfu_engine R381, 45_control
R467), and takes at most one draw. -/
theorem State.requestHold_accepted {s t : State} {i : Instr} {h : Hold} {c : Cfg} (hi : immediateReply c i = none)
    (e : s.requestHold i = some (h, t)) : h.accepted ∧ ¬h.ofSupervisor ∧ ∃ p, t = { s with inp := p } := by
  unfold State.requestHold at e
  split at e
  case h_6 w =>
    obtain ⟨x, p, hx⟩ := popWall_eq s
    rw [hx] at e
    cases e
    exact ⟨clampDelay_lt _, by simp [Hold.ofSupervisor], p, rfl⟩
  case h_7 image =>
    cases e
    have hsize : imageSizeLegal image.length = true := by
      by_contra hn
      simp [immediateReply, hn] at hi
    exact ⟨(imageSizeLegal_iff _).mp hsize, by simp [Hold.ofSupervisor], s.inp, rfl⟩
  case h_5 d =>
    cases e
    exact ⟨clampDelay_lt _, by simp [Hold.ofSupervisor], s.inp, rfl⟩
  case h_8 => cases e
  all_goals
    cases e
    exact ⟨trivial, by simp [Hold.ofSupervisor], s.inp, rfl⟩

/-! What lands. -/

/-- A tick of the supervisor can begin while another agent holds the lock (42_power_fsm R300). -/
structure State.mayTick (s : State) : Prop where
  up : s.up = true
  held : s.holder ≠ none
  other : s.cur ≠ .supervisor
  rests : s.pcSup = .init ∨ s.pcSup = .sleeping

theorem State.mayTick_of_supDue {s : State} {w : Nat} (h : s.supDue = some w) : s.mayTick := by
  unfold State.supDue at h
  split at h
  · next hs =>
    obtain ⟨hup, hheld, hcur⟩ := hs
    refine ⟨hup, hheld, hcur, ?_⟩
    cases hp : s.pcSup <;> simp_all
  · cases h

/-- One change that lands at a suspension point while another agent runs (60_exceptions R605, R640): time, a signal, a request, a
reply that is sent, a request's agent that starts and is answered at once or waits at `Lock()`, a tick of the supervisor that begins
and waits at `Lock()`, or one that begins in Dead and sleeps again. -/
inductive State.Lands (s : State) : State → Prop
  | time (n : Nat) : s.Lands { s with now := n }
  | signal (k : SignalKind) : s.Lands { s.emit (.signal k) with sigCancel := true, pcSig := .signalled }
  | request (w : List Byte) (hup : s.up = true) :
      s.Lands { s.emit (.request s.nextReq w) with
        reqs := s.reqs ++ [{ id := s.nextReq, word := w, point := .received, reply := none }]
        nextReq := s.nextReq + 1 }
  | reply (a : Agent) (r : Reply) (rs : List (Agent × Reply)) : s.Lands ({ s with replies := rs }.replyTo a r)
  | answer (q : Request) (hq : q ∈ s.reqs) (ha : q.arrived = true) (c : Cfg)
      (hc : cfgValid s.cfg = true → cfgValid c = true) (ps : List (Agent × DfuPoint)) (r : Reply) :
      s.Lands (({ s with cfg := c, pcDfu := ps }.markRunning q.id).post (.ctrl q.id) r)
  | wait (q : Request) (hq : q ∈ s.reqs) (ha : q.arrived = true) (h : Hold) (hacc : h.accepted) (hreq : ¬h.ofSupervisor)
      (ps : List (Agent × DfuPoint)) (p : Inputs) :
      s.Lands (({ s with pcDfu := ps, inp := p }.markRunning q.id).park (.ctrl q.id) h)
  | tick (hdue : s.mayTick) (h : Hold) (hacc : h.accepted) (hsup : h.ofSupervisor)
      (hpoint : s.beginTick.pcSup = .waitLock ∨ s.beginTick.pcSup = .exiting) :
      s.Lands (s.beginTick.park .supervisor h)
  | nap (hdue : s.mayTick) (hpoint : s.beginTick.pcSup = .sleeping) (p : Inputs) (w : Option Nat) :
      s.Lands { s.beginTick with inp := p, supWake := w }

/-- `P` is kept by all that lands. -/
def Lasts (P : State → Prop) : Prop := ∀ {s t : State}, P s → s.Lands t → P t

section Lasts

variable {P : State → Prop} {s : State}

theorem Lasts.wake (hP : Lasts P) (h : P s) (hdue : s.mayTick) : P s.wake := by
  unfold State.wake
  split
  · next k hk =>
    obtain ⟨hsup, hacc⟩ := State.tickHold_ofSupervisor hk
    refine hP h (.tick hdue k hacc hsup ?_)
    unfold State.tickHold at hk
    unfold State.beginTick
    grind
  · next hk =>
    obtain ⟨p, w, harm⟩ := s.beginTick.arm_eq
    rw [harm]
    refine hP h (.nap hdue ?_ p w)
    unfold State.tickHold at hk
    unfold State.beginTick
    grind

theorem State.atValidate_eq (s : State) (i : Instr) (k : Nat) : ∃ ps, s.atValidate i k = { s with pcDfu := ps } := by
  unfold State.atValidate
  split <;> exact ⟨_, rfl⟩

theorem Lasts.start (hP : Lasts P) (h : P s) {q : Request} (hq : q ∈ s.reqs) (ha : q.arrived = true) : P (s.start q) := by
  unfold State.start
  split
  · exact hP h (.answer q hq ha s.cfg id s.pcDfu _)
  · next i _ =>
    split
    · next r c hi =>
      obtain ⟨ps, hps⟩ := { s with cfg := c }.atValidate_eq i q.id
      rw [hps]
      exact hP h (.answer q hq ha c (immediateReply_valid hi) ps r)
    · next hi =>
      split
      · exact h
      · split
        · next k t hk =>
          obtain ⟨ps, hps⟩ := s.atValidate_eq i q.id
          rw [hps] at hk
          obtain ⟨hacc, hreq, p, rfl⟩ := State.requestHold_accepted hi hk
          exact hP h (.wait q hq ha k hacc hreq ps p)
        · exact h

theorem Lasts.send (hP : Lasts P) (h : P s) (a : Agent) : P (s.send a) := by
  unfold State.send
  split
  · exact h
  · exact hP h (.reply a _ _)

theorem Lasts.act (hP : Lasts P) (h : P s) (a : EnvAct) : P (s.act a) := by
  cases a with
  | signal k => exact hP h (.signal k)
  | request w =>
    simp only [State.act]
    split
    · next hup => exact hP h (.request w hup)
    · exact h
  | serve k =>
    simp only [State.act, State.serve]
    split
    · exact h
    · split
      · exact hP.send h _
      · split
        · exact h
        · next q hq =>
          have hk := List.find?_some hq
          simp only [Bool.and_eq_true] at hk
          exact hP.start h (List.mem_of_find?_eq_some hq) hk.2
  | wake =>
    simp only [State.act]
    split
    · next w hw =>
      split
      · exact hP.wake h (State.mayTick_of_supDue hw)
      · exact h
    · exact h

theorem Lasts.wakes (hP : Lasts P) (h : P s) (till k : Nat) : P (s.wakes till k) := by
  induction k generalizing s with
  | zero => exact h
  | succ k ih =>
    unfold State.wakes
    split
    · exact h
    · next w hw =>
      split
      · have hdue : s.mayTick := State.mayTick_of_supDue hw
        exact ih (hP.wake (hP h (.time (max s.now w))) ⟨hdue.up, hdue.held, hdue.other, hdue.rests⟩)
      · exact h

/-- What is kept by all that lands is kept by a suspension. -/
theorem Lasts.elapse (hP : Lasts P) (h : P s) (till : Nat) (as : List Arrival) : P (s.elapse till as) := by
  have passes {s : State} (h : P s) (till : Nat) : P (s.passTo till) := hP (hP.wakes h _ _) (.time till)
  induction as generalizing s with
  | nil => exact passes h till
  | cons a as ih => exact ih (hP.act (passes h _) a.act)

theorem Lasts.and {Q : State → Prop} (hP : Lasts P) (hQ : Lasts Q) : Lasts fun s => P s ∧ Q s :=
  fun h l => ⟨hP h.1 l, hQ h.2 l⟩

theorem Lasts.imp {p : Prop} (hP : Lasts P) : Lasts fun s => p → P s := fun h l x => hP (h x) l

end Lasts

end Sys2Proof.Machine
end

section
/-! PROOFS. The ends of an operation, and the rules by which what one operation meets follows from what its parts meet. -/

namespace Sys2Proof.Machine

section Ends

variable {α β : Type} {F : Prop} {P P' : State → Prop} {Q Q' : α → State → Prop} {T : β → State → Prop}
  {R R' : Err → State → Prop} {W W' : State → Prop}

/-- The ends of an operation: `Q` where it goes on, `R` where it raises, `W` where it waits at `Lock()`. A cut of host power ends
the run whatever holds (60_exceptions R639), and a fault of the model is an end only where `F` admits it (10_state R23). -/
def Ends (F : Prop) (Q : α → State → Prop) (R : Err → State → Prop) (W : State → Prop) : EStateM.Result Exc State α → Prop
  | .ok a t => Q a t
  | .error (.raise e) t => R e t
  | .error .wait t => W t
  | .error .cut _ => True
  | .error (.stop _) _ => F

/-- From every state in which `P` holds, `x` has one of these ends. -/
def Meets (F : Prop) (P : State → Prop) (x : Op α) (Q : α → State → Prop) (R : Err → State → Prop) (W : State → Prop) :
    Prop := ∀ s, P s → Ends F Q R W (x s)

theorem Ends.mono {r : EStateM.Result Exc State α} (h : Ends F Q R W r) (hQ : ∀ a t, Q a t → Q' a t)
    (hR : ∀ e t, R e t → R' e t) (hW : ∀ t, W t → W' t) : Ends F Q' R' W' r := by
  match r with
  | .ok a t => exact hQ a t h
  | .error (.raise e) t => exact hR e t h
  | .error .wait t => exact hW t h
  | .error .cut t => trivial
  | .error (.stop f) t => exact h

theorem Meets.mono {x : Op α} (h : Meets F P x Q R W) (hQ : ∀ a t, Q a t → Q' a t) (hR : ∀ e t, R e t → R' e t)
    (hW : ∀ t, W t → W' t) : Meets F P x Q' R' W' := fun s hs => (h s hs).mono hQ hR hW

theorem Meets.pre {x : Op α} (h : Meets F P x Q R W) (hP : ∀ s, P' s → P s) : Meets F P' x Q R W :=
  fun s hs => h s (hP s hs)

theorem meets_pure {a : α} (h : ∀ s, P s → Q a s) : Meets F P (pure a) Q R W := h

theorem meets_raise {e : Err} (h : ∀ s, P s → R e s) : Meets F P (raise e : Op α) Q R W := h

theorem meets_stop {f : Fault} (h : ∀ s, P s → F) : Meets F P (stop f : Op α) Q R W := h

theorem meets_modify {f : State → State} {Q : PUnit → State → Prop} (h : ∀ s, P s → Q ⟨⟩ (f s)) :
    Meets F P (modify f) Q R W := h

theorem meets_get : Meets F P get (fun _ => P) R W := fun _ hs => hs

theorem meets_clock : Meets F P clock (fun _ => P) R W := fun _ hs => hs

theorem meets_bind {x : Op α} {f : α → Op β} (hx : Meets F P x Q R W) (hf : ∀ a, Meets F (Q a) (f a) T R W) :
    Meets F P (x >>= f) T R W := by
  intro s hs
  have hend := hx s hs
  cases h : x s with
  | ok a t =>
    rw [h] at hend
    rw [Op.bind_ok h]
    exact hf a t hend
  | error e t =>
    rw [h] at hend
    rw [Op.bind_error h]
    cases e <;> exact hend

/-- An operation that begins with a look at its state. -/
theorem meets_get_bind {f : State → Op β} (hf : ∀ u, P u → Meets F (· = u) (f u) T R W) : Meets F P (get >>= f) T R W :=
  fun s hs => hf s hs s rfl

theorem meets_ite {c : Prop} [Decidable c] {x y : Op α} (hx : c → Meets F P x Q R W) (hy : ¬c → Meets F P y Q R W) :
    Meets F P (if c then x else y) Q R W := by
  split
  · next h => exact hx h
  · next h => exact hy h

/-- `x` keeps `P`, also where it raises, and does not wait. -/
def Runs (F : Prop) (P : State → Prop) (x : Op α) : Prop := Meets F P x (fun _ => P) (fun _ => P) fun _ => False

/-- `x` keeps `P`, raises transport errors only, and does not wait. -/
def Transacts (F : Prop) (P : State → Prop) (x : Op α) : Prop :=
  Meets F P x (fun _ => P) (fun e t => (∃ f, e = .transport f) ∧ P t) fun _ => False

theorem Transacts.runs {x : Op α} (h : Transacts F P x) : Runs F P x :=
  h.mono (fun _ _ => id) (fun _ _ h => h.2) fun _ => id

/-- A handler raises nothing. -/
theorem Meets.attempt {x : Op α} (h : Meets F P x (fun _ => P') (fun _ => P') W) :
    Meets F P (attempt x) (fun _ => P') R W := by
  intro s hs
  have hend := h s hs
  unfold Machine.attempt
  split <;> simp_all [Ends]

theorem Runs.attempt {x : Op α} (h : Runs F P x) : Meets F P (attempt x) (fun _ => P) R W :=
  (h.mono (fun _ _ => id) (fun _ _ => id) fun _ => False.elim).attempt

theorem Transacts.attempt {x : Op α} (h : Transacts F P x) : Meets F P (attempt x) (fun _ => P) R W := h.runs.attempt

theorem Transacts.attemptTransport {x : Op α} (h : Transacts F P x) :
    Meets F P (attemptTransport x) (fun _ => P) R W := by
  intro s hs
  have hend := h s hs
  obtain ⟨a, t, e, ha⟩ | ⟨e, t, hx, ha⟩ | ⟨e, t, hx, hne, ha⟩ := attempt_cases x s
  · rw [e] at hend
    rw [attemptTransport_ok e]
    exact hend
  · rw [hx] at hend
    obtain ⟨⟨f, rfl⟩, ht⟩ := hend
    rw [attemptTransport_raise hx]
    exact ht
  · rw [hx] at hend
    unfold Machine.attemptTransport
    rw [Op.bind_error ha]
    cases e with
    | raise e => exact absurd rfl (hne e)
    | wait => exact hend.elim
    | cut => trivial
    | stop f => exact hend

theorem Meets.onCut {x : Op α} {f : State → State} (h : Meets F P x Q R W) : Meets F P (onCut f x) Q R W := by
  intro s hs
  have hend := h s hs
  unfold Machine.onCut
  split <;> simp_all [Ends]

/-! Draws. -/

/-- `x` takes a settled input, or counts an open draw, and does nothing else (log 2). -/
def Draws (x : Op α) : Prop := ∀ s, ∃ a p, x s = .ok a { s with inp := p }

theorem Draws.meets {x : Op α} (hx : Draws x) (h : ∀ s a p, P s → Q a { s with inp := p }) : Meets F P x Q R W := by
  intro s hs
  obtain ⟨a, p, e⟩ := hx s
  rw [e]
  exact h s a p hs

theorem draws_popBus : Draws popBus := fun s => by unfold popBus; split <;> exact ⟨_, _, rfl⟩

theorem draws_popDialect1 : Draws popDialect1 := fun s => by unfold popDialect1; split <;> exact ⟨_, _, rfl⟩

theorem draws_popSleep : Draws popSleep := fun s => by unfold popSleep; split <;> exact ⟨_, _, rfl⟩

theorem draws_popIdle : Draws popIdle := fun s => by unfold popIdle; split <;> exact ⟨_, _, rfl⟩

theorem draws_popOpen : Draws popOpen := fun s => by unfold popOpen; split <;> exact ⟨_, _, rfl⟩

theorem draws_popBoot : Draws popBoot := fun s => by unfold popBoot; split <;> exact ⟨_, _, rfl⟩

theorem draws_popLaunch : Draws popLaunch := fun s => by unfold popLaunch; split <;> exact ⟨_, _, rfl⟩

theorem draws_popWall : Draws popWall := popWall_eq

theorem draws_popAgent : Draws popAgent := fun s => by unfold popAgent; split <;> exact ⟨_, _, rfl⟩

end Ends

end Sys2Proof.Machine
end

section
/-! PROOFS. Transactions, sleeps and the steps of the DFU engine keep whatever the ports and what lands do not touch; where the
running agent holds the lock of an open bus they meet no fault. -/

namespace Sys2Proof.Machine

/-- `P` does not see the ports, the companion, the engines' control points, what a session remembers, or what lands. -/
structure Steady (P : State → Prop) : Prop where
  lands : Lasts P
  ports : ∀ {s : State} {tr : List (Nat × Event)} {p : Inputs} {c : Companion} {ps : List (Agent × DfuPoint)},
    P s → P { s with trace := tr, inp := p, comp := c, pcDfu := ps }
  session : ∀ {s : State} {f : Session → Session}, P s → P { s with session := s.session.map f }

/-- Such a `P`, in which a transaction is no fault, or faults are admitted (10_state R32, log 17). -/
structure OnBus (F : Prop) (P : State → Prop) : Prop extends Steady P where
  bus : F ∨ ∀ s, P s → s.busOpen = true ∧ s.holder = some s.cur

section Transactions

variable {α : Type} {F : Prop} {P : State → Prop} {R : Err → State → Prop} {W : State → Prop}

theorem Steady.suspend (h : Steady P) (ms : Nat) (p : Susp) : Meets F P (suspend ms p) (fun _ => P) R W := by
  intro s hs
  obtain ⟨till, -, -, e⟩ | e := suspend_cases ms p s
  · rw [e]
    trivial
  · rw [e]
    exact Lasts.elapse h.lands hs _ _

theorem Steady.emit (h : Steady P) (e : Event) : Meets F P (emit e) (fun _ => P) R W := fun _ hs => h.ports hs

theorem Steady.draw (h : Steady P) {x : Op α} (hx : Draws x) : Meets F P x (fun _ => P) R W := hx.meets fun _ _ _ hs => h.ports hs

theorem Steady.sleep (h : Steady P) (ms : Nat) : Meets F P (sleep ms) (fun _ => P) R W :=
  meets_bind (h.emit _) fun _ => meets_bind (h.draw draws_popSleep) fun _ => h.suspend _ _

theorem Steady.setDfu (h : Steady P) (p : DfuPoint) : Meets F P (setDfu p) (fun _ => P) R W := fun _ hs => h.ports hs

theorem OnBus.guardBus (h : OnBus F P) : Transacts F P guardBus := by
  intro s hs
  obtain hF | hbus := h.bus
  · obtain ⟨-, -, e⟩ | ⟨-, -, e⟩ | ⟨-, e⟩ := guardBus_cases s
    · rw [e]
      exact hs
    · rw [e]
      exact hF
    · rw [e]
      exact hF
  · obtain ⟨hopen, hheld⟩ := hbus s hs
    rw [guardBus_ok hopen hheld]
    exact hs

theorem OnBus.memRead (h : OnBus F P) (r : Byte) (n : Nat) : Transacts F P (memRead r n) :=
  meets_bind h.guardBus fun _ => meets_bind (h.draw draws_popBus) fun _ => meets_bind (h.suspend _ _) fun _ =>
    fun s hs => h.ports (s := s) hs

theorem OnBus.memWrite (h : OnBus F P) (r : Byte) (data : List Byte) : Transacts F P (memWrite r data) :=
  meets_bind h.guardBus fun _ => meets_bind (h.draw draws_popBus) fun _ => meets_bind (h.suspend _ _).onCut fun _ =>
    fun s hs => h.ports (s := s) hs

theorem transacts_raise {e : TransportError} : Transacts F P (raise (.transport e) : Op α) :=
  meets_raise fun _ hs => ⟨⟨e, rfl⟩, hs⟩

theorem transacts_pure (a : α) : Transacts F P (pure a) := meets_pure fun _ hs => hs

theorem runs_pure (a : α) : Runs F P (pure a) := meets_pure fun _ hs => hs

theorem runs_raise (e : Err) : Runs F P (raise e : Op α) := meets_raise fun _ hs => hs

theorem Steady.retryLoop (h : Steady P) {t : Op (Except Failure α)} (ht : Transacts F P t) (k : Nat) :
    Transacts F P (retryLoop t k) := by
  induction k with
  | zero =>
    refine meets_bind ht fun r => ?_
    split
    · exact transacts_pure _
    · exact meets_ite (fun _ => transacts_raise) fun _ => transacts_raise
  | succ k ih =>
    refine meets_bind ht fun r => ?_
    split
    · exact transacts_pure _
    · exact meets_ite (fun _ => transacts_raise) fun _ => meets_bind (h.sleep _) fun _ => ih

theorem OnBus.rdreg (h : OnBus F P) (r : Byte) (n : Nat) : Transacts F P (rdreg r n) := h.retryLoop (h.memRead r n) _

theorem OnBus.wrreg (h : OnBus F P) (r : Byte) (data : List Byte) : Transacts F P (wrreg r data) :=
  h.retryLoop (h.memWrite r data) _

/-! Typed reads and writes. -/

theorem OnBus.rdu8 (h : OnBus F P) (r : Byte) : Transacts F P (rdu8 r) :=
  meets_bind (h.rdreg _ _) fun _ => transacts_pure _

theorem OnBus.rdword (h : OnBus F P) (r : Byte) : Transacts F P (rdword r) :=
  meets_bind (h.rdreg _ _) fun _ => transacts_pure _

theorem OnBus.rdu32 (h : OnBus F P) (r : Byte) : Transacts F P (rdu32 r) :=
  meets_bind (h.rdreg _ _) fun _ => transacts_pure _

theorem OnBus.runDialect1 (h : OnBus F P) (l : List Dialect1Txn) : Transacts F P (runDialect1 l) := by
  induction l with
  | nil => exact transacts_pure _
  | cons x rest ih =>
    cases x with
    | read r n => exact meets_bind (h.rdreg _ _) fun _ => meets_bind ih fun _ => transacts_pure _
    | write r data => exact meets_bind (h.wrreg _ _) fun _ => ih

theorem Steady.traffic (h : Steady P) : Meets F P traffic (fun _ => P) R W := fun _ hs => h.ports hs

theorem Steady.unstatedTrace (h : Steady P) (l : List Susp) : Transacts F P (unstatedTrace l) := by
  induction l with
  | nil => exact transacts_pure _
  | cons p rest ih => exact meets_bind (h.suspend _ _) fun _ => meets_bind h.traffic fun _ => ih

theorem OnBus.unfixedDialect1 (h : OnBus F P) (r : Byte) : Transacts F P (unfixedDialect1 r) :=
  meets_bind h.guardBus fun _ => meets_bind (h.draw draws_popDialect1) fun _ => meets_bind (h.unstatedTrace _) fun _ =>
    meets_bind (h.suspend _ _) fun _ => meets_bind (h.emit _) fun _ => by
      split
      · exact meets_bind h.traffic fun _ => transacts_pure _
      · exact transacts_raise

theorem OnBus.fixedDialect1 (h : OnBus F P) (r : Byte) (c : Dialect1Read) : Transacts F P (fixedDialect1 r c) :=
  meets_bind (h.runDialect1 _) fun _ => by
    split
    · exact transacts_pure _
    · exact h.unfixedDialect1 r

theorem OnBus.dialect1U16 (h : OnBus F P) (r : Byte) : Transacts F P (dialect1U16 r) :=
  meets_bind meets_get fun u => by
    split
    · exact h.unfixedDialect1 r
    · split
      · exact h.fixedDialect1 r _
      · exact h.unfixedDialect1 r

/-- In `P` the dialect is known, or faults are admitted (10_state R23, 40_transport R207). -/
def KnowsDialect (F : Prop) (P : State → Prop) : Prop := F ∨ ∀ s, P s → s.dialect ≠ none

theorem OnBus.rdu16 (h : OnBus F P) (hd : KnowsDialect F P) (r : Byte) : Transacts F P (rdu16 r) :=
  meets_get_bind fun u hu => by
    have from_u : ∀ s, s = u → P s := fun s e => e ▸ hu
    split
    · exact (h.rdword r).pre from_u
    · exact (h.dialect1U16 r).pre from_u
    · next hnone => exact meets_stop fun _ _ => hd.elim id fun hd => absurd hnone (hd u hu)

theorem OnBus.wruN (h : OnBus F P) (k : Nat) (r : Byte) {v : Nat} (hv : F ∨ v < 256 ^ k) : Transacts F P (wruN k r v) :=
  meets_ite (fun _ => h.wrreg _ _) fun hn => meets_stop fun _ _ => hv.resolve_right hn

theorem OnBus.wru8 (h : OnBus F P) (r : Byte) {v : Nat} (hv : F ∨ v < 256 ^ 1) : Transacts F P (wru8 r v) := h.wruN 1 r hv

theorem OnBus.wru16 (h : OnBus F P) (r : Byte) {v : Nat} (hv : F ∨ v < 256 ^ 2) : Transacts F P (wru16 r v) :=
  h.wruN 2 r hv

theorem OnBus.wru32 (h : OnBus F P) (r : Byte) {v : Nat} (hv : F ∨ v < 256 ^ 4) : Transacts F P (wru32 r v) :=
  h.wruN 4 r hv

/-! Named registers. -/

theorem OnBus.rdHwver (h : OnBus F P) : Transacts F P rdHwver := meets_bind (h.rdreg _ _) fun _ => transacts_pure _

theorem OnBus.rdFwver (h : OnBus F P) : Transacts F P rdFwver := meets_bind (h.rdreg _ _) fun _ => transacts_pure _

theorem OnBus.rdPstate (h : OnBus F P) : Transacts F P rdPstate := meets_bind (h.rdu8 _) fun _ => transacts_pure _

theorem OnBus.readMeasurements (h : OnBus F P) (hd : KnowsDialect F P) : Transacts F P readMeasurements :=
  meets_bind (h.rdu16 hd _) fun _ => meets_bind (h.rdu16 hd _) fun _ => meets_bind (h.rdu16 hd _) fun _ =>
    meets_bind (h.rdu16 hd _) fun _ => meets_bind (h.rdu16 hd _) fun _ => meets_bind h.rdPstate fun _ => transacts_pure _

theorem OnBus.wdArm (h : OnBus F P) : Transacts F P wdArm := h.wru16 _ (.inr (by decide))

theorem OnBus.wdFeed (h : OnBus F P) : Transacts F P wdFeed := h.wru16 _ (.inr (by decide))

theorem OnBus.wdDisable (h : OnBus F P) : Transacts F P wdDisable := h.wru16 _ (.inr (by decide))

theorem OnBus.getUsb (h : OnBus F P) (p : Int) : Runs F P (getUsb p) :=
  meets_ite (fun _ => meets_bind (h.rdu8 _).runs fun _ => meets_ite (fun _ => runs_pure _) fun _ =>
    meets_ite (fun _ => runs_pure _) fun _ => runs_raise _) fun _ => runs_raise _

theorem OnBus.setUsb (h : OnBus F P) (p : Int) (on : Bool) : Runs F P (setUsb p on) :=
  meets_ite (fun _ => (h.wru8 _ (.inr (by cases on <;> decide))).runs) fun _ => runs_raise _

theorem OnBus.requestShutdown (h : OnBus F P) : Transacts F P requestShutdown := h.wru8 _ (.inr (by decide))

theorem OnBus.requestStandby (h : OnBus F P) {seconds : Nat} (hs : F ∨ seconds < 2 ^ 32) :
    Transacts F P (requestStandby seconds) :=
  meets_bind meets_get fun _ => meets_ite (fun _ => h.wrreg _ _) fun hn => meets_stop fun _ _ => hs.resolve_right hn

/-! The DFU engine. -/

theorem OnBus.dfuStart (h : OnBus F P) (n : Nat) : Runs F P (dfuStart n) :=
  meets_ite (fun hn => (h.wru32 _ (.inr (by have := (imageSizeLegal_iff n).mp hn; omega))).runs) fun _ => runs_raise _

theorem OnBus.dfuStatus (h : OnBus F P) : Transacts F P dfuStatus :=
  meets_bind (h.rdu8 _) fun _ => meets_bind (meets_modify fun _ hs => h.session hs) fun _ => transacts_pure _

theorem OnBus.dfuBlock (h : OnBus F P) {i : Nat} {d : List Byte} (hf : F ∨ frameInRange i d = true) :
    Transacts F P (dfuBlock i d) :=
  meets_bind (meets_ite (fun _ => transacts_pure _) fun hn => meets_stop fun _ _ => hf.resolve_right hn) fun _ =>
    h.wrreg _ _

theorem OnBus.dfuCommit (h : OnBus F P) : Transacts F P dfuCommit := h.wru8 _ (.inr (by decide))

theorem OnBus.dfuAbort (h : OnBus F P) : Transacts F P dfuAbort := h.wru8 _ (.inr (by decide))

theorem OnBus.prewaitLoop (h : OnBus F P) (i start k : Nat) : Runs F P (prewaitLoop i start k) := by
  induction k with
  | zero => exact runs_raise _
  | succ k ih =>
    refine meets_bind h.dfuStatus.runs fun st => ?_
    split
    · exact runs_pure _
    · exact runs_raise _
    · exact meets_bind meets_get fun _ => meets_ite (fun _ => runs_raise _) fun _ =>
        meets_ite (fun _ => runs_raise _) fun _ => meets_bind (h.sleep _) fun _ => ih

theorem OnBus.prewait (h : OnBus F P) (i : Nat) : Runs F P (prewait i) :=
  meets_bind (h.setDfu _) fun _ => meets_bind meets_get fun _ => meets_ite (fun _ => runs_raise _) fun _ =>
    meets_bind (h.sleep _) fun _ => meets_bind meets_clock fun _ => h.prewaitLoop _ _ _

/-- The image in hand has a block `i`, or faults are admitted (43_dfu_framer R352). -/
def HasBlock (F : Prop) (P : State → Prop) (i : Nat) : Prop := F ∨ ∀ s, P s → frameInRange i (blockAt s.dfuImage i) = true

theorem OnBus.dfuSend (h : OnBus F P) {i : Nat} (hb : HasBlock F P i) : Transacts F P (dfuSend i) :=
  meets_bind (h.setDfu _) fun _ => meets_get_bind fun u hu =>
    (h.dfuBlock (hb.imp id fun hb => hb u hu)).pre fun _ e => e ▸ hu

theorem Steady.noteProgress (h : Steady P) (i total : Nat) : Meets F P (noteProgress i total) (fun _ => P) R W :=
  meets_bind (h.setDfu _) fun _ => meets_modify fun _ hs => h.session (h.ports hs)

theorem OnBus.sendBlocks (h : OnBus F P) (total k : Nat) {i : Nat} (hb : ∀ j, i ≤ j → j < i + k → HasBlock F P j) :
    Runs F P (sendBlocks total k i) := by
  induction k generalizing i with
  | zero => exact runs_pure _
  | succ k ih =>
    exact meets_bind (h.prewait _) fun _ => meets_bind (h.dfuSend (hb i (by omega) (by omega))).runs fun _ =>
      meets_bind (h.noteProgress _ _) fun _ => ih fun j hl hr => hb j (by omega) (by omega)

theorem OnBus.drainLoop (h : OnBus F P) (hd : KnowsDialect F P) (total start k : Nat) :
    Runs F P (drainLoop total start k) := by
  induction k with
  | zero => exact runs_raise _
  | succ k ih =>
    refine meets_bind h.dfuStatus.runs fun st => ?_
    split
    · exact runs_raise _
    · exact meets_bind (h.sleep _) fun _ => meets_bind (h.rdu16 hd _).runs fun _ =>
        meets_ite (fun _ => runs_pure _) fun _ => meets_bind meets_get fun _ =>
          meets_ite (fun _ => meets_ite (fun _ => runs_raise _) fun _ => runs_raise _) fun _ =>
            meets_bind (h.sleep _) fun _ => ih

theorem OnBus.drain (h : OnBus F P) (hd : KnowsDialect F P) (total : Nat) : Runs F P (drain total) :=
  meets_bind (h.setDfu _) fun _ => meets_bind meets_clock fun _ => h.drainLoop hd _ _ _

theorem OnBus.commitSeq (h : OnBus F P) : Runs F P commitSeq :=
  meets_bind (h.setDfu _) fun _ => meets_bind (h.sleep _) fun _ => h.dfuCommit.runs

theorem OnBus.abortSeq (h : OnBus F P) : Meets F P abortSeq (fun _ => P) R W :=
  meets_bind (h.setDfu _) fun _ => meets_bind (h.sleep _) fun _ => meets_bind h.dfuAbort.attempt fun _ =>
    meets_pure fun _ hs => hs

theorem OnBus.sessionBody (h : OnBus F P) (hd : KnowsDialect F P) (n : Nat)
    (hb : ∀ i, i < blockCount n → HasBlock F P i) : Runs F P (sessionBody n) :=
  meets_bind (h.setDfu _) fun _ => meets_bind (h.dfuStart _) fun _ =>
    meets_bind (h.sendBlocks _ _ fun j _ hj => hb j (by omega)) fun _ => meets_bind (h.drain hd _) fun _ => h.commitSeq

end Transactions

end Sys2Proof.Machine
end

section
/-! PROOFS. A watch over a run: what holds at every point of it, and which disciplines are followed. Operations that take the lock
and the control port's requests leave a watched run with the lock free. -/

namespace Sys2Proof.Machine

/-- A blackout has its start time (10_state R23). -/
def State.timed (s : State) : Prop := s.fsm = .blackout → s.t0 ≠ none

/-- A blackout has its start time, and Shutdown and Dead have the request issued (10_state R23, 42_power_fsm R321). -/
def State.ruled (s : State) : Prop := s.timed ∧ (s.fsm = .shutdown ∨ s.fsm = .dead → s.step1Done = true)

/-- `P` sees neither the lock, the session, the ports, nor what the power machine and the replies write; and, where the lock is not
followed, not who waits at it. -/
structure Calm (lock : Prop) (P : State → Prop) : Prop where
  lands : Lasts P
  frame : ∀ {s : State} {tr : List (Nat × Event)} {p : Inputs} {c : Companion} {ps : List (Agent × DfuPoint)}
    {holder : Option Agent} {session : Option Session} {image : List Byte} {meas : Option Snapshot} {intent done : Bool}
    {replies : List (Agent × Reply)} {result : Option Result} {wake fed t0 : Option Nat} {err : Option Err} {fsm : FsmState},
    P s → P { s with
      trace := tr, inp := p, comp := c, pcDfu := ps, holder := holder, session := session, dfuImage := image,
      measLast := meas, intent := intent, step1Done := done, replies := replies, result := result, supWake := wake,
      lastFed := fed, t0 := t0, supErr := err, fsm := fsm }
  cfg : ∀ {s : State} {c : Cfg}, P s → (cfgValid s.cfg = true → cfgValid c = true) → P { s with cfg := c }
  park : ∀ {s : State} {a : Agent} {h : Hold}, ¬lock → P s → P (s.park a h)

theorem Calm.and {lock : Prop} {P Q : State → Prop} (hP : Calm lock P) (hQ : Calm lock Q) : Calm lock fun s => P s ∧ Q s :=
  ⟨Lasts.and hP.lands hQ.lands, fun h => ⟨hP.frame h.1, hQ.frame h.2⟩, fun h hc => ⟨hP.cfg h.1 hc, hQ.cfg h.2 hc⟩,
    fun hl h => ⟨hP.park hl h.1, hQ.park hl h.2⟩⟩

/-- What is watched over a run: a predicate that holds whoever holds the lock; whether the lock and the session are followed
(10_state R31, R51); whether the power machine's rules are (10_state R23, 42_power_fsm R321); and whether faults are excluded. -/
structure Watch where
  inv : State → Prop
  lock : Prop
  power : Prop
  safe : Prop

namespace Watch

variable (w : Watch)

/-- The predicate watched holds at every point of a run, and where faults are excluded everything is followed. -/
structure Sound : Prop extends Calm w.lock w.inv where
  strict : w.safe → w.lock ∧ w.power

/-- The bus is open where faults are excluded (70_reset R707). -/
def Opened : Prop := w.safe → ∀ s, w.inv s → s.busOpen = true

/-- The bus is open and its dialect known where faults are excluded (70_reset R707). -/
structure Ready : Prop where
  opened : w.Opened
  dialect : w.safe → ∀ s, w.inv s → s.dialect ≠ none

/-- The lock is free and there is no session. -/
def free (s : State) : Prop := w.inv s ∧ (w.power → s.ruled) ∧ (w.lock → s.holder = none ∧ s.session = none)

/-- The running agent holds the lock, there is no session, and of the power machine `C` holds. -/
def holds (C : State → Prop) (s : State) : Prop :=
  w.inv s ∧ (w.power → C s) ∧ (w.lock → s.holder = some s.cur ∧ s.session = none)

/-- The running agent holds the lock and there is no session. -/
def held (s : State) : Prop := w.holds State.ruled s

/-- The running agent holds the lock in a session of `image`. -/
def uploading (image : List Byte) (s : State) : Prop :=
  w.inv s ∧ (w.power → s.ruled) ∧ (w.lock → s.holder = some s.cur ∧ s.dfuImage = image)

/-- A wait at `Lock()`, which only a watch that does not follow the lock meets. -/
def waits (s : State) : Prop := ¬w.lock ∧ w.free s

/-- From the free lock `x` ends with the lock free, or at a wait. -/
def Returns {α : Type} (x : Op α) : Prop := Meets (¬w.safe) w.free x (fun _ => w.free) (fun _ => w.free) w.waits

end Watch

/-! What does not see what lands. -/

theorem Steady.and {P Q : State → Prop} (hP : Steady P) (hQ : Steady Q) : Steady fun s => P s ∧ Q s :=
  ⟨Lasts.and hP.lands hQ.lands, fun h => ⟨hP.ports h.1, hQ.ports h.2⟩, fun h => ⟨hP.session h.1, hQ.session h.2⟩⟩

theorem Steady.imp {P : State → Prop} (p : Prop) (hP : Steady P) : Steady fun s => p → P s :=
  ⟨Lasts.imp hP.lands, fun h x => hP.ports (h x), fun h x => hP.session (h x)⟩

theorem steady_ruled : Steady State.ruled := ⟨fun h l => by cases l <;> exact h, id, id⟩

theorem steady_timed : Steady State.timed := ⟨fun h l => by cases l <;> exact h, id, id⟩

theorem steady_holder : Steady fun s => s.holder = some s.cur := ⟨fun h l => by cases l <;> exact h, id, id⟩

theorem steady_noSession : Steady fun s => s.session = none :=
  ⟨fun h l => by cases l <;> exact h, id, fun h => by simp [h]⟩

theorem steady_holderNone : Steady fun s => s.holder = none := ⟨fun h l => by cases l <;> exact h, id, id⟩

theorem steady_image (image : List Byte) : Steady fun s => s.dfuImage = image :=
  ⟨fun h l => by cases l <;> exact h, id, id⟩

/-- Every block of an image of a legal size can be framed (43_dfu_framer R353). -/
theorem frameInRange_blockAt {image : List Byte} {i : Nat} (h : 1 ≤ image.length ∧ image.length ≤ 268431360)
    (hi : i < blockCount image.length) : frameInRange i (blockAt image i) = true := by
  simp only [blockCount, frameInRange, blockAt, blockSize, List.length_take, List.length_drop, Bool.and_eq_true,
    decide_eq_true_eq] at *
  omega

namespace Watch

variable {w : Watch} {α : Type} {R : Err → State → Prop} {W : State → Prop}

theorem Sound.steady (h : w.Sound) : Steady w.inv := ⟨h.lands, fun hi => h.frame hi, fun hi => h.frame hi⟩

theorem Sound.steady_free (h : w.Sound) : Steady w.free :=
  h.steady.and ((steady_ruled.imp _).and ((steady_holderNone.and steady_noSession).imp _))

theorem Sound.onBus_holds (h : w.Sound) (ho : w.Opened) {C : State → Prop} (hC : Steady C) :
    OnBus (¬w.safe) (w.holds C) where
  toSteady := h.steady.and ((hC.imp _).and ((steady_holder.and steady_noSession).imp _))
  bus := by
    by_cases hs : w.safe
    · exact .inr fun s ⟨hi, _, hl⟩ => ⟨ho hs s hi, (hl (h.strict hs).1).1⟩
    · exact .inl hs

theorem Sound.onBus_held (h : w.Sound) (ho : w.Opened) : OnBus (¬w.safe) w.held := h.onBus_holds ho steady_ruled

theorem Sound.onBus_uploading (h : w.Sound) (ho : w.Opened) (image : List Byte) : OnBus (¬w.safe) (w.uploading image) where
  toSteady := h.steady.and ((steady_ruled.imp _).and ((steady_holder.and (steady_image image)).imp _))
  bus := by
    by_cases hs : w.safe
    · exact .inr fun s ⟨hi, _, hl⟩ => ⟨ho hs s hi, (hl (h.strict hs).1).1⟩
    · exact .inl hs

theorem Ready.knowsDialect (hr : w.Ready) {P : State → Prop} (hP : ∀ s, P s → w.inv s) : KnowsDialect (¬w.safe) P := by
  by_cases hs : w.safe
  · exact .inr fun s h => hr.dialect hs s (hP s h)
  · exact .inl hs

/-! The lock. -/

theorem Sound.takeLock (h : w.Sound) {s : State} (hs : w.free s) : w.held s.takeLock := by
  obtain ⟨hi, hp, hl⟩ := hs
  exact ⟨h.frame (s := s) hi, hp, fun x => ⟨rfl, (hl x).2⟩⟩

theorem Sound.dropLock (h : w.Sound) {s : State} (hs : w.held s) : w.free s.dropLock := by
  obtain ⟨hi, hp, hl⟩ := hs
  exact ⟨h.frame (s := s) hi, hp, fun x => ⟨rfl, (hl x).2⟩⟩

theorem Sound.acquire (h : w.Sound) (k : Hold) : Meets (¬w.safe) w.free (acquire k) (fun _ => w.held) R w.waits := by
  intro s hs
  obtain ⟨hi, hp, hl⟩ := hs
  obtain ⟨-, e⟩ | ⟨a, ha, -, e⟩ | ⟨ha, e⟩ := acquire_cases k s
  · rw [e]
    exact h.takeLock ⟨hi, hp, hl⟩
  · rw [e]
    have hlax : ¬w.lock := fun x => by simp [(hl x).1] at ha
    exact ⟨hlax, h.park hlax hi, hp, fun x => absurd x hlax⟩
  · rw [e]
    exact fun hs => by simp [(hl (h.strict hs).1).1] at ha

theorem Sound.unlock (h : w.Sound) : Meets (¬w.safe) w.held unlock (fun _ => w.free) R W := by
  intro s hs
  obtain ⟨hi, hp, hl⟩ := hs
  by_cases hh : s.holder = some s.cur
  · rw [unlock_holder hh]
    exact h.dropLock ⟨hi, hp, hl⟩
  · rw [unlock_other hh]
    exact fun hs => hh (hl (h.strict hs).1).1

theorem Sound.underLock (h : w.Sound) (k : Hold) {x : Op α} (hx : Runs (¬w.safe) w.held x) : w.Returns (underLock k x) :=
  meets_bind (h.acquire k) fun _ => meets_bind hx.attempt fun _ => meets_bind h.unlock fun _ => meets_pure fun _ => id

/-! The control port's requests. -/

theorem returns_pure (a : α) : w.Returns (pure a) := meets_pure fun _ => id

theorem Sound.replying (h : w.Sound) {x : Op Reply} (hx : w.Returns x) : w.Returns (replying x) :=
  meets_bind hx fun _ => meets_bind (meets_modify fun _ ⟨hi, hp, hl⟩ => ⟨h.frame hi, hp, hl⟩) fun _ => returns_pure _

theorem Sound.orImmediate (h : w.Sound) (i : Instr) {x : Op Reply} (hx : w.Returns x) : w.Returns (orImmediate i x) :=
  meets_get_bind fun u hu => by
    split
    · next r c hc =>
      rintro _ rfl
      obtain ⟨hi, hp, hl⟩ := hu
      exact ⟨h.cfg hi (immediateReply_valid hc), hp, hl⟩
    · exact hx.pre fun _ e => e ▸ hu

theorem Sound.answered (h : w.Sound) (i : Instr) : w.Returns (answered i) := h.orImmediate i (returns_pure _)

theorem Sound.cSnapshot (h : w.Sound) (hr : w.Ready) : w.Returns cSnapshot :=
  meets_bind (h.underLock _ ((h.onBus_held hr.opened).readMeasurements (hr.knowsDialect fun _ hs => hs.1)).runs) fun r => by
    split
    · exact meets_bind (meets_modify fun _ ⟨hi, hp, hl⟩ => ⟨h.frame hi, hp, hl⟩) fun _ => returns_pure _
    · exact returns_pure _

theorem Sound.cGetUsb (h : w.Sound) (hr : w.Ready) (p : Int) : w.Returns (cGetUsb p) :=
  meets_bind (h.underLock _ ((h.onBus_held hr.opened).getUsb p)) fun _ => returns_pure _

theorem Sound.cSetUsb (h : w.Sound) (hr : w.Ready) (p : Int) (on : Bool) : w.Returns (cSetUsb p on) :=
  meets_bind (h.underLock _ ((h.onBus_held hr.opened).setUsb p on)) fun _ => returns_pure _

theorem Sound.cShutdown (h : w.Sound) (hr : w.Ready) : w.Returns cShutdown :=
  meets_bind (h.underLock _ (h.onBus_held hr.opened).requestShutdown.runs) fun _ =>
    meets_bind (meets_modify fun _ ⟨hi, hp, hl⟩ => ⟨h.frame hi, hp, hl⟩) fun _ => returns_pure _

theorem Sound.standbyWrite (h : w.Sound) (hr : w.Ready) {seconds : Nat} (hs : w.safe → seconds < 2 ^ 32) :
    w.Returns (standbyWrite seconds) :=
  meets_bind (h.underLock _ ((h.onBus_held hr.opened).requestStandby (not_or_of_imp hs)).runs) fun _ => returns_pure _

theorem Sound.cStandby (h : w.Sound) (hr : w.Ready) (arg : StandbyArg) : w.Returns (cStandby arg) := by
  cases arg with
  | delay d => exact h.standbyWrite hr fun _ => clampDelay_lt d
  | datetime t =>
    exact meets_bind (draws_popWall.meets fun _ _ _ ⟨hi, hp, hl⟩ => ⟨h.frame hi, hp, hl⟩) fun _ =>
      h.standbyWrite hr fun _ => clampDelay_lt _
  | other given => exact returns_pure _

/-! Uploads. -/

theorem Sound.setDfu (h : w.Sound) (p : DfuPoint) : Meets (¬w.safe) w.free (setDfu p) (fun _ => w.free) R W :=
  meets_modify fun _ ⟨hi, hp, hl⟩ => ⟨h.frame hi, hp, hl⟩

theorem Sound.endSession (h : w.Sound) (image : List Byte) :
    Meets (¬w.safe) (w.uploading image) endSession (fun _ => w.free) R W :=
  meets_bind (meets_modify fun _ ⟨hi, hp, hl⟩ => ⟨h.frame hi, hp, fun x => ⟨(hl x).1, rfl⟩⟩) fun _ =>
    meets_bind h.unlock fun _ => h.setDfu .done

theorem hasBlock_uploading (hs : w.Sound) {image : List Byte} (h : w.safe → 1 ≤ image.length ∧ image.length ≤ 268431360)
    {i : Nat} (hi : i < blockCount image.length) : HasBlock (¬w.safe) (w.uploading image) i := by
  by_cases x : w.safe
  · refine .inr fun s ⟨_, _, hl⟩ => ?_
    rw [(hl (hs.strict x).1).2]
    exact frameInRange_blockAt (h x) hi
  · exact .inl x

theorem Sound.uploadFrom (h : w.Sound) (hr : w.Ready) (k : Hold) {image : List Byte}
    (hi : w.safe → 1 ≤ image.length ∧ image.length ≤ 268431360) : w.Returns (uploadFrom k image) := by
  have hbus := h.onBus_uploading hr.opened image
  have hbody := hbus.sessionBody (hr.knowsDialect fun _ hs => hs.1) image.length fun i => hasBlock_uploading h hi
  refine meets_bind (h.acquire k) fun _ => meets_bind (Q := fun _ => w.uploading image) ?_ fun _ =>
    meets_bind hbody.attempt fun r => ?_
  · exact meets_modify fun _ ⟨hi, hp, hl⟩ => ⟨h.frame hi, hp, fun x => ⟨(hl x).1, rfl⟩⟩
  · split
    · exact h.endSession image
    · exact meets_bind hbus.abortSeq fun _ => meets_bind (h.endSession image) fun _ => meets_raise fun _ => id

theorem Sound.dfuUpload (h : w.Sound) (hr : w.Ready) (k : Hold) (image : List Byte) : w.Returns (dfuUpload k image) :=
  meets_bind (h.setDfu _) fun _ => meets_ite (fun hn => h.uploadFrom hr k fun _ => (imageSizeLegal_iff _).mp hn) fun _ =>
    meets_raise fun _ => id

theorem cUpload_returns {x : Op Unit} (hx : w.Returns x) : w.Returns (cUpload x) :=
  meets_bind hx.attempt fun _ => returns_pure _

end Watch

end Sys2Proof.Machine
end

section
/-! PROOFS. The supervisor's operations and STARTUP under a watch: they end with the lock free, or with the exit code written. -/

namespace Sys2Proof.Machine

theorem State.beginTick_ne_exited (s : State) : s.beginTick.pcSup ≠ .exited := by
  unfold State.beginTick
  grind

/-- The state an exit leaves: the code is written and emitted, the supervisor is at Exited (42_power_fsm R331). -/
def State.exitWith (s : State) (code : Fin 3) : State :=
  { s.emit (.exit code) with exitCode := some code, pcSup := .exited }

namespace Watch

/-- Some run with the lock free ended in an exit. -/
def exited (w : Watch) (t : State) : Prop := ∃ (u : State) (code : Fin 3), w.free u ∧ t = u.exitWith code

/-- The supervisor's run is over: it sleeps with the lock free, or exited (42_power_fsm R300, R331). -/
def ended (w : Watch) (t : State) : Prop := (w.free t ∧ t.pcSup = .sleeping) ∨ w.exited t

/-- The watch does not see where the supervisor is before it exits. -/
def SeesNoPoint (w : Watch) : Prop := ∀ {s : State} {p : SupPoint}, p ≠ .exited → w.inv s → w.inv { s with pcSup := p }

variable {w : Watch} {R : Err → State → Prop} {W : State → Prop}

theorem SeesNoPoint.free (hp : w.SeesNoPoint) {s : State} {p : SupPoint} (hne : p ≠ .exited) (h : w.free s) :
    w.free { s with pcSup := p } := by
  obtain ⟨hi, hr, hl⟩ := h
  exact ⟨hp hne hi, hr, hl⟩

theorem SeesNoPoint.setSup_free (hp : w.SeesNoPoint) {p : SupPoint} (hne : p ≠ .exited) :
    Meets (¬w.safe) w.free (setSup p) (fun _ => w.free) R W :=
  meets_modify fun _ h => hp.free hne h

theorem SeesNoPoint.setSup_held (hp : w.SeesNoPoint) {p : SupPoint} (hne : p ≠ .exited) : Runs (¬w.safe) w.held (setSup p) :=
  meets_modify fun _ ⟨hi, hr, hl⟩ => ⟨hp hne hi, hr, hl⟩

/-! The exit sequence. -/

theorem Sound.exitFrom (h : w.Sound) (ho : w.Opened) (code : Fin 3) :
    Meets (¬w.safe) w.free (exitFrom code) (fun _ => w.exited) R w.waits :=
  meets_bind (h.acquire _) fun _ => meets_bind (h.onBus_held ho).wdDisable.attempt fun _ => meets_bind h.unlock fun _ =>
    meets_modify fun u hu => ⟨u, code, hu, rfl⟩

theorem Sound.exitSeq (h : w.Sound) (ho : w.Opened) (hp : w.SeesNoPoint) (code : Fin 3) :
    Meets (¬w.safe) w.free (exitSeq code) (fun _ => w.exited) R w.waits :=
  meets_bind (hp.setSup_free (by decide)) fun _ => h.exitFrom ho code

/-! The power state machine. -/

theorem endTickIfFatal_runs (e : TransportError) : Runs (¬w.safe) w.held (endTickIfFatal e) :=
  meets_bind meets_get fun _ => meets_ite (fun _ => runs_raise _) fun _ => runs_pure _

theorem Sound.startStep (h : w.Sound) (ho : w.Opened) (now : Nat) : Runs (¬w.safe) w.held (startStep now) :=
  meets_bind (h.onBus_held ho).wdArm.attemptTransport fun r => by
    split
    · exact meets_modify fun _ ⟨hi, _, hl⟩ => ⟨h.frame hi, fun _ => ⟨nofun, nofun⟩, hl⟩
    · exact endTickIfFatal_runs _

theorem Sound.takeSampleOp (h : w.Sound) (hr : w.Ready) : Runs (¬w.safe) w.held takeSampleOp :=
  meets_bind ((h.onBus_held hr.opened).readMeasurements (hr.knowsDialect fun _ hs => hs.1)).attemptTransport fun r => by
    split
    · exact meets_bind (meets_modify fun _ ⟨hi, hp, hl⟩ => ⟨h.frame hi, hp, hl⟩) fun _ => runs_pure _
    · exact meets_bind (endTickIfFatal_runs _) fun _ => runs_pure _

theorem Sound.feedIfDue (h : w.Sound) (ho : w.Opened) (now : Nat) : Runs (¬w.safe) w.held (feedIfDue now) :=
  meets_bind meets_get fun _ => meets_ite
    (fun _ => meets_bind (h.onBus_held ho).wdFeed.attemptTransport fun r => by
      split
      · exact meets_modify fun _ ⟨hi, hp, hl⟩ => ⟨h.frame hi, hp, hl⟩
      · exact endTickIfFatal_runs _)
    fun _ => runs_pure _

theorem steady_step1Done : Steady fun s => s.step1Done = true := ⟨fun h l => by cases l <;> exact h, id, id⟩

/-- Once the request is issued, Dead keeps the rules (42_power_fsm R321). -/
theorem Sound.launch (h : w.Sound) (ho : w.Opened) :
    Meets (¬w.safe) (fun s => w.held s ∧ s.step1Done = true) shutdownSeq.launch (fun _ => w.held) (fun _ => w.held)
      fun _ => False := by
  have hsteady := (h.onBus_held ho).toSteady.and steady_step1Done
  have dies : ∀ s, w.held s ∧ s.step1Done = true → w.held { s with fsm := .dead } :=
    fun _ ⟨⟨hi, _, hl⟩, hd⟩ => ⟨h.frame hi, fun _ => ⟨nofun, fun _ => hd⟩, hl⟩
  exact meets_bind meets_get fun u => meets_ite (fun _ => meets_modify dies) fun _ =>
    meets_bind (hsteady.draw draws_popLaunch) fun ok => meets_bind (hsteady.emit _) fun _ =>
      meets_ite (fun _ => meets_modify dies) fun _ => meets_modify fun _ ⟨⟨hi, hp, hl⟩, _⟩ => ⟨h.frame hi, hp, hl⟩

/-- The shutdown sequence issues the request before anything that needs it (42_power_fsm R321). -/
theorem Sound.shutdownSeq (h : w.Sound) (ho : w.Opened) :
    Meets (¬w.safe) (w.holds State.timed) shutdownSeq (fun _ => w.held) (fun _ => w.held) fun _ => False := by
  refine meets_get_bind fun u hu => meets_ite (fun hd => (h.launch ho).pre ?_) fun _ =>
    meets_bind (Q := fun _ => w.holds State.timed) ?_ fun _ => meets_bind (meets_modify ?_) fun _ => h.launch ho
  · rintro _ rfl
    obtain ⟨hi, ht, hl⟩ := hu
    exact ⟨⟨hi, fun x => ⟨ht x, fun _ => hd⟩, hl⟩, hd⟩
  · exact (h.onBus_holds ho steady_timed).requestShutdown.attempt.pre fun _ e => e ▸ hu
  · exact fun _ ⟨hi, ht, hl⟩ => ⟨⟨h.frame hi, fun x => ⟨ht x, fun _ => rfl⟩, hl⟩, rfl⟩

theorem Sound.finalFeed (h : w.Sound) (ho : w.Opened) (now : Nat) :
    Meets (¬w.safe) (w.holds State.timed) (finalFeed now) (fun _ => w.holds State.timed) R W :=
  meets_bind (h.onBus_holds ho steady_timed).wdFeed.attemptTransport fun r => by
    split
    · exact meets_modify fun _ ⟨hi, ht, hl⟩ => ⟨h.frame hi, ht, hl⟩
    · exact meets_pure fun _ => id

/-- Shutdown is entered from any state (42_power_fsm R320). -/
theorem Sound.enterShutdown (h : w.Sound) (ho : w.Opened) (now : Nat) :
    Meets (¬w.safe) (w.holds fun _ => True) (enterShutdown now) (fun _ => w.held) (fun _ => w.held) fun _ => False :=
  meets_bind (meets_modify fun _ ⟨hi, _, hl⟩ => ⟨h.frame hi, fun _ => nofun, hl⟩) fun _ =>
    meets_bind (h.finalFeed ho now) fun _ => h.shutdownSeq ho

theorem Sound.actOnIntent (h : w.Sound) (ho : w.Opened) (now : Nat) : Runs (¬w.safe) w.held (actOnIntent now) :=
  meets_bind (meets_modify fun _ ⟨hi, _, hl⟩ => ⟨h.frame hi, fun _ => trivial, hl⟩) fun _ => h.enterShutdown ho now

theorem Sound.okStep (h : w.Sound) (vlim : Rat) (r : Sample) (now : Nat) : Runs (¬w.safe) w.held (okStep vlim r now) :=
  meets_bind meets_get fun _ => by
    split
    · exact meets_ite (fun _ => meets_modify fun _ ⟨hi, _, hl⟩ => ⟨h.frame hi, fun _ => ⟨fun _ => nofun, nofun⟩, hl⟩)
        fun _ => runs_pure _
    · exact runs_pure _

/-- In Blackout the start time is there to read (10_state R23). -/
theorem Sound.blackoutStep (h : w.Sound) (ho : w.Opened) (vlim tlim : Rat) (r : Sample) (now : Nat) :
    Meets (¬w.safe) (fun s => w.held s ∧ s.fsm = .blackout) (blackoutStep vlim tlim r now) (fun _ => w.held)
      (fun _ => w.held) fun _ => False := by
  refine meets_get_bind fun u ⟨⟨hi, hp, hl⟩, hb⟩ => ?_
  split
  · refine meets_ite (fun _ => meets_modify ?_) fun _ => ?_
    · rintro _ rfl
      exact ⟨h.frame hi, fun _ => ⟨nofun, nofun⟩, hl⟩
    · split
      · next hnone => exact meets_stop fun _ _ hs => (hp (h.strict hs).2).1 hb hnone
      · refine meets_ite (fun _ => (h.enterShutdown ho now).pre ?_) fun _ => meets_pure ?_
        · rintro _ rfl
          exact ⟨hi, fun _ => trivial, hl⟩
        · rintro _ rfl
          exact ⟨hi, hp, hl⟩
  · refine meets_pure ?_
    rintro _ rfl
    exact ⟨hi, hp, hl⟩

theorem Sound.fsmStepAt (h : w.Sound) (ho : w.Opened) (vlim tlim : Rat) (r : Sample) (now : Nat) :
    Runs (¬w.safe) w.held (fsmStepAt vlim tlim r now) := by
  refine meets_get_bind fun u hu => ?_
  have from_u : ∀ s, s = u → w.held s := fun _ e => e ▸ hu
  have acts := (h.actOnIntent ho now).pre from_u
  split
  · exact (runs_pure _).pre from_u
  · refine meets_bind (meets_modify ?_) fun _ => h.shutdownSeq ho
    rintro _ rfl
    obtain ⟨hi, hp, hl⟩ := hu
    exact ⟨h.frame hi, fun x => (hp x).1, hl⟩
  · exact meets_ite (fun _ => acts) fun _ => (runs_pure _).pre from_u
  · exact meets_ite (fun _ => acts) fun _ => (h.okStep vlim r now).pre from_u
  · next hb => exact meets_ite (fun _ => acts) fun _ => (h.blackoutStep ho vlim tlim r now).pre (by
      rintro _ rfl
      exact ⟨hu, hb⟩)

/-! The tick. -/

theorem Sound.beginTick (h : w.Sound) (hp : w.SeesNoPoint) {s : State} (hs : w.free s) : w.free s.beginTick := by
  obtain ⟨hi, hf, hl⟩ := hp.free s.beginTick_ne_exited hs
  exact ⟨h.frame hi, hf, hl⟩

theorem Sound.tickBody (h : w.Sound) (hr : w.Ready) (hp : w.SeesNoPoint) (vlim tlim : Rat) :
    Runs (¬w.safe) w.held (tickBody vlim tlim) :=
  meets_bind meets_clock fun now => meets_bind meets_get fun _ => meets_ite (fun _ => h.startStep hr.opened now) fun _ =>
    meets_bind (hp.setSup_held (by decide)) fun _ => meets_bind (h.takeSampleOp hr) fun _ =>
      meets_bind (hp.setSup_held (by decide)) fun _ => meets_bind (h.feedIfDue hr.opened now) fun _ =>
        meets_bind (hp.setSup_held (by decide)) fun _ => h.fsmStepAt hr.opened _ _ _ _

theorem Sound.tickFrom (h : w.Sound) (hr : w.Ready) (hp : w.SeesNoPoint) (vlim tlim : Rat) :
    Meets (¬w.safe) w.free (tickFrom vlim tlim) (fun _ => w.ended) R w.waits :=
  meets_bind (h.acquire _) fun _ => meets_bind (h.tickBody hr hp vlim tlim).attempt fun r => meets_bind h.unlock fun _ => by
    split
    · exact meets_modify fun _ h => .inl ⟨hp.free (by decide) h, rfl⟩
    · exact (h.exitSeq hr.opened hp 1).mono (fun _ _ => .inr) (fun _ _ => id) fun _ => id

theorem Sound.tick (h : w.Sound) (hr : w.Ready) (hp : w.SeesNoPoint) :
    Meets (¬w.safe) w.free tick (fun _ => w.ended) R w.waits := by
  refine meets_get_bind fun u hu => meets_bind (Q := fun _ s => s = u.beginTick) (meets_modify ?_) fun _ => ?_
  · rintro _ rfl
    rfl
  · have began : ∀ s, s = u.beginTick → w.free s := fun _ e => e ▸ h.beginTick hp hu
    refine meets_ite (fun _ => ?_) fun hsig => meets_ite (fun hdead => meets_pure ?_) fun _ =>
      (h.tickFrom hr hp _ _).pre began
    · exact ((h.exitFrom hr.opened 0).pre began).mono (fun _ _ => .inr) (fun _ _ => id) fun _ => id
    · rintro _ rfl
      exact .inl ⟨h.beginTick hp hu, by simp [hsig, hdead]⟩

/-! STARTUP. -/

/-- The same watch of another predicate. -/
def on (w : Watch) (I : State → Prop) : Watch := { w with inv := I }

/-- What is watched in a reset, before the bus is open, after it, and once the dialect is known; what each step of the reset makes
of it; and `N`, which holds where the reset ends (70_reset R700, R707). -/
structure Boots (w : Watch) (shut opened known N : State → Prop) : Prop where
  shutSound : (w.on shut).Sound
  openedSound : (w.on opened).Sound
  knownSound : (w.on known).Sound
  shutExits : ∀ s, (w.on shut).exited s → N s
  openedExits : ∀ s, (w.on opened).exited s ∨ (w.on opened).waits s → N s
  knownExits : ∀ s, (w.on known).exited s ∨ (w.on known).waits s → N s
  openedPoint : (w.on opened).SeesNoPoint
  knownPoint : (w.on known).SeesNoPoint
  openedBus : (w.on opened).Opened
  knownBus : (w.on known).Opened
  opens : ∀ s k, shut s → cfgValid s.cfg = true → opened { s with busOpen := true, handle := some k }
  knows : ∀ s d, opened s → known { s with dialect := some d }
  starts : ∀ s, (w.on known).free s → N { s with up := true, pcSup := .init, pcSig := .idle }

section Boots

variable {shut opened known N : State → Prop}

theorem Boots.firstArm (h : w.Boots shut opened known N) :
    Meets (¬w.safe) (w.on known).held firstArm (fun _ => N) R N := by
  have hs := h.knownSound
  have hstart : Meets (¬w.safe) (w.on known).held (do Machine.unlock; startAgents) (fun _ => N) R N :=
    meets_bind hs.unlock fun _ => meets_modify h.starts
  refine meets_bind (hs.onBus_held h.knownBus).wdArm.attemptTransport fun r => ?_
  split
  · exact meets_bind (meets_modify fun _ ⟨hi, _, hl⟩ => ⟨hs.frame hi, fun _ => ⟨nofun, nofun⟩, hl⟩) fun _ => hstart
  · exact meets_ite
      (fun _ => meets_bind hs.unlock fun _ => (hs.exitSeq h.knownBus h.knownPoint 1).mono
        (fun _ t ht => h.knownExits t (.inl ht)) (fun _ _ => id) fun t ht => h.knownExits t (.inr ht))
      fun _ => meets_bind (meets_modify fun _ ⟨hi, _, hl⟩ => ⟨hs.frame hi, fun _ => ⟨nofun, nofun⟩, hl⟩) fun _ => hstart

theorem Boots.startOnBus (h : w.Boots shut opened known N) :
    Meets (¬w.safe) (w.on opened).free startOnBus (fun _ => N) R N := by
  have hs := h.openedSound
  refine meets_bind ((hs.acquire _).mono (fun _ _ => id) (fun _ _ => id) fun t ht => h.openedExits t (.inr ht)) fun _ =>
    meets_bind (hs.onBus_held h.openedBus).rdFwver.attemptTransport fun r => ?_
  split
  · exact meets_bind hs.unlock fun _ =>
      meets_bind (meets_modify fun _ ⟨hi, hp, hl⟩ => ⟨hs.frame hi, hp, hl⟩) fun _ =>
        (hs.exitSeq h.openedBus h.openedPoint 1).mono (fun _ t ht => h.openedExits t (.inl ht)) (fun _ _ => id)
          fun t ht => h.openedExits t (.inr ht)
  · exact meets_bind (meets_modify fun _ ⟨hi, hp, hl⟩ => ⟨h.knows _ _ hi, hp, hl⟩) fun _ => h.firstArm

/-- An exit before the bus is open (70_reset R700). -/
theorem Boots.exitBeforeBus (h : w.Boots shut opened known N) (code : Fin 3) (e : Err) :
    Meets (¬w.safe) (w.on shut).free (exitBeforeBus code e) (fun _ => N) R W :=
  meets_modify fun s ⟨hi, hp, hl⟩ =>
    h.shutExits _ ⟨{ s with supErr := some e }, code, ⟨h.shutSound.frame hi, hp, hl⟩, rfl⟩

theorem steady_cfgValid : Steady fun s => cfgValid s.cfg = true := by
  refine ⟨fun h l => ?_, id, id⟩
  cases l with
  | answer q hq ha c hc ps r => exact hc h
  | _ => exact h

theorem Boots.openBus (h : w.Boots shut opened known N) {c : Cfg} (hc : cfgValid c = true) :
    Meets (¬w.safe) (w.on shut).free (openBus c) (fun _ => N) R N := by
  have hs := h.shutSound
  have hsteady : Steady fun s => (w.on shut).free s ∧ cfgValid s.cfg = true := hs.steady_free.and steady_cfgValid
  refine meets_bind (Q := fun _ s => (w.on shut).free s ∧ cfgValid s.cfg = true) (meets_modify ?_) fun _ =>
    meets_bind (hsteady.draw draws_popOpen) fun o => meets_bind (hsteady.suspend _ _) fun _ =>
      meets_bind (hsteady.emit _) fun _ => ?_
  · exact fun _ ⟨hi, hp, hl⟩ => ⟨⟨hs.cfg hi fun _ => hc, hp, hl⟩, hc⟩
  · split
    · exact (h.exitBeforeBus _ _).pre fun _ => And.left
    · exact meets_bind (meets_modify fun _ ⟨⟨hi, hp, hl⟩, hv⟩ => ⟨h.opens _ _ hi hv, hp, hl⟩) fun _ => h.startOnBus

theorem rangeError_none {c : Cfg} (h : rangeError c = none) : cfgValid c = true := by
  unfold rangeError at h
  unfold cfgValid
  grind

/-- A configuration that STARTUP goes on with is valid (70_reset R703). -/
theorem configOf_valid {par : Params} {b : BootInput} {c : Cfg} (h : configOf par b = .ok c) : cfgValid c = true := by
  have finish_valid {x : Except BadConfig Cfg} (h : configOf.finishConfig x = .ok c) : cfgValid c = true := by
    unfold configOf.finishConfig at h
    split at h
    · cases h
    · split at h
      · next hr =>
        cases h
        exact rangeError_none hr
      · cases h
  unfold configOf at h
  split at h
  · cases h
  · exact finish_valid h
  · exact finish_valid h

/-- The lock is free in a block that may be reset, where faults are excluded (70_reset R700, R708). -/
def mayReset (w : Watch) (shut : State → Prop) (s : State) : Prop :=
  (w.on shut).free s ∧ (w.safe → s.busOpen = false ∧ s.pcSup ≠ .exited)

theorem Boots.startup (h : w.Boots shut opened known N) :
    Meets (¬w.safe) (w.mayReset shut) startup (fun _ => N) R N := by
  have guarded : Meets (¬w.safe) (w.mayReset shut) guardReset (fun _ => (w.on shut).free) R N := by
    refine meets_get_bind fun u ⟨hu, hg⟩ => meets_ite (fun hdone => meets_stop fun _ _ hs => ?_) fun _ =>
      meets_pure fun _ e => e ▸ hu
    obtain ⟨hshut, hrun⟩ := hg hs
    simp [hshut, hrun] at hdone
  refine meets_bind guarded fun _ => meets_bind (h.shutSound.steady_free.draw draws_popBoot) fun b =>
    meets_bind meets_get fun u => ?_
  split
  · exact h.exitBeforeBus _ _
  · next hc => exact h.openBus (configOf_valid hc)

end Boots

end Watch

end Sys2Proof.Machine
end

section
/-! PROOFS. The meanings and the tasks under a watch: what holds of the next state of a watched run. -/

namespace Sys2Proof.Machine

section Settles

variable {α : Type} {F : Prop} {P Q N : State → Prop} {W : State → Prop} {s : State}

/-- The next state meets `N`; there is one unless `F` admits a fault or a refusal. -/
def Settles (F : Prop) (N : State → Prop) : Host.Outcome State Fault Refusal → Prop
  | .next t => N t
  | .fault _ => F
  | .refused _ => F

/-- `N` holds of what host power leaves when it is cut, and does not see an operation's result. -/
structure Closes (N : State → Prop) : Prop where
  cut : ∀ s : State, N s.powerCut
  result : ∀ (s : State) (r : Option Result), N s → N { s with result := r }

theorem finish_settles {x : Op Result} (hx : Meets F P x (fun _ => Q) (fun _ => Q) W) (hs : P s)
    (hQ : ∀ t r, Q t → N { t with result := r }) (hW : ∀ t, W t → N t) (hcut : ∀ t : State, N t.powerCut) :
    Settles F N (finish x s) := by
  have hend := hx s hs
  cases h : x s with
  | ok r t =>
    rw [h] at hend
    rw [finish_ok h]
    exact hQ t _ hend
  | error e t =>
    rw [h] at hend
    cases e with
    | raise e =>
      rw [finish_raise h]
      exact hQ t _ hend
    | wait =>
      rw [finish_wait h]
      exact hW t hend
    | cut =>
      rw [finish_cut h]
      exact hcut t
    | stop f =>
      rw [finish_stop h]
      exact hend

theorem Meets.doing {x : Op Unit} {R : Err → State → Prop} (hx : Meets F P x (fun _ => Q) R W) :
    Meets F P (doing x) (fun _ => Q) R W := meets_bind hx fun _ => meets_pure fun _ => id

theorem Meets.giving {f : α → Value} {x : Op α} {R : Err → State → Prop} (hx : Meets F P x (fun _ => Q) R W) :
    Meets F P (giving f x) (fun _ => Q) R W := meets_bind hx fun _ => meets_pure fun _ => id

end Settles

/-- The state in which a waiter goes on from `Lock()`. -/
def State.resuming (s : State) (w : Waiter) : State := { s with cur := w.agent, waiters := s.waiters.erase w }

namespace Watch

variable {w : Watch} {N : State → Prop} {s : State}

/-- A run that ends with the lock free, or at a wait, ends in `N`. -/
theorem Returns.settles {x : Op Result} (hx : w.Returns x) (hN : Closes N) (hfree : ∀ t, w.free t → N t) (hs : w.free s) :
    Settles (¬w.safe) N (finish x s) :=
  finish_settles hx hs (fun t r h => hN.result t r (hfree t h)) (fun t h => hfree t h.2) hN.cut

/-! Requests. -/

theorem Sound.exec_control (h : w.Sound) (hr : w.Ready) (hN : Closes N) (hfree : ∀ t, w.free t → N t) {i : Instr}
    (hi : isControl i = true) (hs : w.free s) : Settles (¬w.safe) N (exec i s) := by
  have replies {x : Op Reply} (hx : w.Returns x) : Settles (¬w.safe) N (finish (Machine.replying x) s) :=
    (h.replying hx).settles hN hfree hs
  cases i <;> try cases hi
  case cSnapshot => exact replies (h.cSnapshot hr)
  case cGetConfig key => exact replies (h.answered _)
  case cSetConfig key value => exact replies (h.answered _)
  case cGetUsb p => exact replies (h.orImmediate _ (h.cGetUsb hr p))
  case cSetUsb p on => exact replies (h.orImmediate _ (h.cSetUsb hr p on))
  case cShutdown => exact replies (h.cShutdown hr)
  case cStandby arg => exact replies (h.orImmediate _ (h.cStandby hr arg))
  case cUpload image => exact replies (cUpload_returns (h.dfuUpload hr _ image))

theorem decodeRequest_control {word : List Byte} {i : Instr} (h : decodeRequest word = some i) : isControl i = true := by
  unfold decodeRequest at h
  split at h
  · split at h
    · next hc =>
      cases h
      exact hc
    · cases h
  · cases h

theorem Sound.runRequest (h : w.Sound) (hr : w.Ready) (hN : Closes N) (hfree : ∀ t, w.free t → N t) {k : Nat}
    (hk : ∃ q ∈ s.reqs, q.id = k) (hs : w.free { s.markRunning k with cur := .ctrl k }) :
    Settles (¬w.safe) N (runRequest k s) := by
  unfold Machine.runRequest
  split
  · next hnone =>
    obtain ⟨q, hq, rfl⟩ := hk
    simpa using List.find?_eq_none.mp hnone q hq
  · split
    · next hi => exact h.exec_control hr hN hfree (decodeRequest_control hi) hs
    · exact (h.replying (returns_pure _)).settles hN hfree hs

/-! Agents that go on from `Lock()`. -/

/-- A request's agent, or an upload, goes on from `Lock()`. -/
theorem Sound.resume_request (h : w.Sound) (hr : w.Ready) {k : Hold} (hk : ¬k.ofSupervisor) (hreset : k ≠ .startup)
    (hacc : w.safe → k.accepted) : w.Returns (resume k) := by
  cases k with
  | startup => exact absurd rfl hreset
  | tick v l => exact absurd (.inl ⟨v, l, rfl⟩) hk
  | exit code => exact absurd (.inr ⟨code, rfl⟩) hk
  | upload image => exact (h.uploadFrom hr _ hacc).doing
  | snapshot => exact h.replying (h.cSnapshot hr)
  | getUsb p => exact h.replying (h.cGetUsb hr p)
  | setUsb p on => exact h.replying (h.cSetUsb hr p on)
  | shutdown => exact h.replying (h.cShutdown hr)
  | standby seconds => exact h.replying (h.standbyWrite hr hacc)
  | uploadRequest image => exact h.replying (cUpload_returns (h.uploadFrom hr _ hacc))

/-- The supervisor goes on from `Lock()`. -/
theorem Sound.resume_supervisor (h : w.Sound) (hr : w.Ready) (hp : w.SeesNoPoint) {k : Hold} (hk : k.ofSupervisor) :
    Meets (¬w.safe) w.free (resume k) (fun _ => w.ended) (fun _ => w.ended) w.waits := by
  obtain ⟨v, l, rfl⟩ | ⟨code, rfl⟩ := hk
  · exact (h.tickFrom hr hp v l).doing
  · exact ((h.exitFrom hr.opened code).mono (fun _ _ => .inr) (fun _ _ => id) fun _ => id).doing

/-- A run of the supervisor ends in `N`. -/
theorem settles_of_ended {x : Op Result} (hx : Meets (¬w.safe) w.free x (fun _ => w.ended) (fun _ => w.ended) w.waits)
    (hN : Closes N) (hend : ∀ t, w.ended t ∨ w.waits t → N t) (hs : w.free s) : Settles (¬w.safe) N (finish x s) :=
  finish_settles hx hs (fun t r h => hN.result t r (hend t (.inl h))) (fun t h => hend t (.inr h)) hN.cut

theorem Sound.exec_tick (h : w.Sound) (hr : w.Ready) (hp : w.SeesNoPoint) (hN : Closes N)
    (hend : ∀ t, w.ended t ∨ w.waits t → N t) (hs : w.free s) : Settles (¬w.safe) N (exec .tick s) :=
  settles_of_ended (h.tick hr hp).doing hN hend hs

theorem Boots.exec_startup {shut opened known : State → Prop} (h : w.Boots shut opened known N) (hN : Closes N)
    (hs : w.mayReset shut s) : Settles (¬w.safe) N (exec .startup s) :=
  finish_settles (Q := N) h.startup.doing hs hN.result (fun _ => id) hN.cut

/-- A second reset goes on from `Lock()`, which no block's own run comes to (70_reset R708). -/
theorem Boots.resume_startup {shut opened known : State → Prop} (h : w.Boots shut opened known N) (hN : Closes N)
    (hs : (w.on opened).free s) : Settles (¬w.safe) N (finish (resume .startup) s) :=
  finish_settles (Q := N) h.startOnBus.doing hs hN.result (fun _ => id) hN.cut

/-! Nobody runs, and the choice of who runs. -/

theorem runIdle_settles {F : Prop} {P : State → Prop} (hP : Steady P) (hN : ∀ t, P t → N t)
    (hcut : ∀ t : State, N t.powerCut) (hs : P s) : Settles F N (runIdle s) := by
  have hend : Transacts F P idle :=
    meets_bind (hP.draw draws_popIdle) fun _ => meets_bind meets_get fun _ => hP.suspend _ _
  have hend := hend s hs
  unfold runIdle
  split
  · next e =>
    rw [e] at hend
    exact hN _ hend
  · exact hcut _
  · next e =>
    rw [e] at hend
    exact hend
  · next e =>
    rw [e] at hend
    exact hN _ hend.2
  · next e =>
    rw [e] at hend
    exact hend.elim

theorem schedule_settles {F : Prop} (hidle : Settles F N (runIdle s.arm))
    (htask : ∀ p, ∀ k ∈ { s.arm with inp := p }.tasks, Settles F N (runTask k { s.arm with inp := p })) :
    Settles F N (schedule s) := by
  unfold schedule
  split
  · exact hidle
  · next k ks hks =>
    obtain ⟨n, p, e⟩ := draws_popAgent s.arm
    rw [e]
    refine htask p _ ?_
    change _ ∈ s.arm.tasks
    have hlt : n % (ks.length + 1) < (k :: ks).length := Nat.mod_lt n ks.length.succ_pos
    rw [hks, List.getD_eq_getElem _ _ hlt]
    exact List.getElem_mem _

theorem Sound.free_arm (h : w.Sound) (hs : w.free s) : w.free s.arm := by
  obtain ⟨p, k, e⟩ := s.arm_eq
  obtain ⟨hi, hp, hl⟩ := hs
  rw [e]
  exact ⟨h.frame hi, hp, hl⟩

/-- A tick that can begin is the sleeping or the new supervisor's. -/
theorem supReady_of_tick_mem (h : .tick ∈ s.tasks) : s.pcSup = .init ∨ s.pcSup = .sleeping := by
  have hready : s.supReady = true := by simpa [State.tasks, State.due, State.ipc] using h
  unfold State.supReady at hready
  grind

/-- A request that can start has arrived. -/
theorem arrived_of_request_mem {k : Nat} (h : .request k ∈ s.tasks) : ∃ q ∈ s.reqs, q.id = k ∧ q.arrived = true := by
  have h : ∃ q, (q ∈ s.reqs ∧ q.arrived = true) ∧ q.id = k := by simpa [State.tasks, State.due, State.ipc] using h
  obtain ⟨q, ⟨hq, ha⟩, hk⟩ := h
  exact ⟨q, hq, hk, ha⟩

theorem Sound.schedule (h : w.Sound) (hN : Closes N) (hfree : ∀ t, w.free t → N t)
    (htask : ∀ u, w.free u → ∀ k ∈ u.tasks, Settles (¬w.safe) N (runTask k u)) (hs : w.free s) :
    Settles (¬w.safe) N (schedule s) := by
  have harm := h.free_arm hs
  exact schedule_settles (runIdle_settles h.steady_free hfree hN.cut harm) fun _ k hk =>
    htask _ (h.steady_free.ports harm) k hk

/-- A watch that follows every agent alike: it sees neither where the supervisor is nor who runs, and stays when a request starts or
an agent goes on from `Lock()`. `N` holds wherever such a run ends. -/
structure Uniform (w : Watch) (N : State → Prop) : Prop where
  sound : w.Sound
  ready : w.Ready
  point : w.SeesNoPoint
  closes : Closes N
  free : ∀ t, w.free t → N t
  exited : ∀ t, w.exited t → N t
  runs : ∀ s a, w.inv s → w.inv { s with cur := a }
  marks : ∀ (s : State) (q : Request), q ∈ s.reqs → q.arrived = true → w.inv s → w.inv (s.markRunning q.id)
  resumes : ∀ (s : State) (x : Waiter), x ∈ s.waiters → w.inv s → w.inv (s.resuming x)
  accepts : ∀ (s : State) (x : Waiter), x ∈ s.waiters → w.inv s → w.safe → x.hold.accepted
  resets : ∀ (s : State) (x : Waiter), x ∈ s.waiters → w.free s → x.hold = .startup →
    Settles (¬w.safe) N (finish (resume .startup) (s.resuming x))

theorem Uniform.ended (h : w.Uniform N) {t : State} (ht : w.ended t ∨ w.waits t) : N t := by
  obtain (⟨ht, -⟩ | ht) | ⟨-, ht⟩ := ht
  · exact h.free t ht
  · exact h.exited t ht
  · exact h.free t ht

theorem Uniform.runTask (h : w.Uniform N) {k : Task} (hk : k ∈ s.tasks) (hs : w.free s) :
    Settles (¬w.safe) N (runTask k s) := by
  obtain ⟨hi, hp, hl⟩ := id hs
  cases k with
  | tick =>
    exact h.sound.exec_tick h.ready h.point h.closes (fun _ => h.ended) ⟨h.runs s .supervisor hi, hp, hl⟩
  | request k =>
    obtain ⟨q, hq, rfl, ha⟩ := arrived_of_request_mem hk
    exact h.sound.runRequest h.ready h.closes h.free ⟨q, hq, rfl⟩ ⟨h.runs _ (.ctrl q.id) (h.marks s q hq ha hi), hp, hl⟩
  | resume x =>
    have hx : x ∈ s.waiters := State.mem_waiters_of_mem_tasks hk
    have hbegin : w.free (s.resuming x) := ⟨h.resumes s x hx hi, hp, hl⟩
    by_cases hreset : x.hold = .startup
    · have hend := h.resets s x hx hs hreset
      rwa [← hreset] at hend
    · by_cases hsup : x.hold.ofSupervisor
      · exact settles_of_ended (h.sound.resume_supervisor h.ready h.point hsup) h.closes (fun _ => h.ended) hbegin
      · exact (h.sound.resume_request h.ready hsup hreset (h.accepts s x hx hi)).settles h.closes h.free hbegin
  | send a => exact h.free _ (Lasts.send h.sound.steady_free.lands hs a)
  | pass => exact runIdle_settles h.sound.steady_free h.free h.closes.cut hs

theorem Uniform.schedule (h : w.Uniform N) (hs : w.free s) : Settles (¬w.safe) N (schedule s) :=
  h.sound.schedule h.closes h.free (fun _ hu _ hk => h.runTask hk hu) hs

/-! The operation port. -/

/-- An operation that runs in its caller's hold (30_encoding R132) ends in that hold, or host power is cut. -/
theorem Sound.exec_held (h : w.Sound) (hu : ¬w.safe) {i : Instr} (hi : callerHolds i = true) (hs : w.held s) :
    Settles (¬w.safe) (fun t => w.held t ∨ t.wasCut) (exec i s) := by
  have hopen : w.Opened := fun x => absurd x hu
  have hb := h.onBus_held hopen
  have hd : KnowsDialect (¬w.safe) w.held := .inl hu
  have ends {x : Op Result} (hx : Runs (¬w.safe) w.held x) :
      Settles (¬w.safe) (fun t => w.held t ∨ t.wasCut) (finish x s) :=
    finish_settles hx hs (fun t r ⟨hi, hp, hl⟩ => .inl ⟨h.frame hi, hp, hl⟩) (fun _ => False.elim) fun t => .inr ⟨t, rfl⟩
  have gives {α : Type} {f : α → Value} {x : Op α} (hx : Runs (¬w.safe) w.held x) := ends (Meets.giving (f := f) hx)
  have does {x : Op Unit} (hx : Runs (¬w.safe) w.held x) := ends (Meets.doing hx)
  cases i <;> try cases hi
  case rdreg | rdDevid => exact gives (hb.rdreg _ _).runs
  case rdHwver => exact gives hb.rdHwver.runs
  case rdFwver => exact gives hb.rdFwver.runs
  case rdWdt | rdPon | rdVin | rdVscap | rdIin | rdTmcu | rdTpcb | rdDfuBw | rdu16 => exact gives (hb.rdu16 hd _).runs
  case rdPstate => exact gives hb.rdPstate.runs
  case rdUsb0 | rdUsb1 | rdUsb2 | rdUsb3 | getUsb => exact gives (hb.getUsb _)
  case rdDfuStatus => exact gives hb.dfuStatus.runs
  case rdu8 => exact gives (hb.rdu8 _).runs
  case rdu32 => exact gives (hb.rdu32 _).runs
  case rdword => exact gives (hb.rdword _).runs
  case readMeasurements => exact gives (hb.readMeasurements hd).runs
  case wrreg => exact does (hb.wrreg _ _).runs
  case wdArm | wdFeed | wdDisable | wrPon | wru16 => exact does (hb.wru16 _ (.inl hu)).runs
  case wrUsb0 | wrUsb1 | wrUsb2 | wrUsb3 | setUsb => exact does (hb.setUsb _ _)
  case wrShutdown | requestShutdown | wrDfuCommit | wrDfuAbort | wru8 => exact does (hb.wru8 _ (.inl hu)).runs
  case wrStandby | requestStandby => exact does (hb.requestStandby (.inl hu)).runs
  case wrDfuStart => exact does (hb.dfuStart _)
  case wrDfuBlock => exact does (hb.dfuBlock (.inl hu)).runs
  case wru32 => exact does (hb.wru32 _ (.inl hu)).runs
  case fsmStep => exact does (h.fsmStepAt hopen _ _ _ _)
  case shutdownSeq => exact does ((h.shutdownSeq hopen).pre fun _ ⟨hi, hp, hl⟩ => ⟨hi, fun x => (hp x).1, hl⟩)
  case dfuPrewait => exact does (hb.prewait _)
  case dfuSend => exact does (hb.dfuSend (.inl hu)).runs
  case dfuDrain => exact does (hb.drain hd _)
  case dfuCommitSeq => exact does hb.commitSeq
  case dfuAbortSeq => exact does hb.abortSeq

/-- The end of a port's hold, or of a run that host power ended. -/
theorem Sound.releasePort (h : w.Sound) {t : State} (ht : w.held t ∨ t.wasCut) : w.free t.releasePort ∨ t.releasePort.wasCut := by
  obtain ⟨hi, hp, hl⟩ | ⟨u, rfl⟩ := ht
  · refine .inl ?_
    unfold State.releasePort
    split
    · exact h.dropLock ⟨hi, hp, hl⟩
    · next hn => exact ⟨hi, hp, fun x => absurd (hl x).1 hn⟩
  · exact .inr ⟨u, rfl⟩

theorem Sound.execHeld (h : w.Sound) (hu : ¬w.safe) (hN : Closes N) (hfree : ∀ t, w.free t → N t) {i : Instr}
    (hi : callerHolds i = true) (hs : w.free s) : Settles (¬w.safe) N (execHeld i s) := by
  have closes {t : State} (ht : w.free t ∨ t.wasCut) : N t := by
    obtain ht | ⟨u, rfl⟩ := ht
    · exact hfree t ht
    · exact hN.cut u
  unfold Machine.execHeld
  split
  · have hend := h.exec_held hu hi (h.takeLock hs)
    cases e : exec i s.takeLock with
    | next t =>
      rw [e] at hend
      exact closes (h.releasePort hend)
    | fault f => exact hu
    | refused r => exact hu
  · next a ha =>
    obtain ⟨hinv, hp, hl⟩ := hs
    have hlax : ¬w.lock := fun x => by simp [(hl x).1] at ha
    have hend := h.exec_held (s := s) hu hi ⟨hinv, hp, fun x => absurd x hlax⟩
    cases e : exec i s with
    | next t =>
      rw [e] at hend
      exact closes (hend.imp (fun ⟨hi, hp, _⟩ => ⟨hi, hp, fun x => absurd x hlax⟩) id)
    | fault f => exact hu
    | refused r => exact hu

/-- Every operation given on the port ends in `N` where STARTUP does. -/
theorem Uniform.issue (h : w.Uniform N) (hu : ¬w.safe) (hstart : Settles (¬w.safe) N (exec .startup s)) (i : Instr)
    (hs : w.free s) : Settles (¬w.safe) N (issue i s) := by
  have returns {x : Op Result} (hx : w.Returns x) : Settles (¬w.safe) N (finish x s) := hx.settles h.closes h.free hs
  unfold Machine.issue
  split
  · next hc => exact h.sound.execHeld hu h.closes h.free hc hs
  · next hc =>
    by_cases hi : isControl i = true
    · exact h.sound.exec_control h.ready h.closes h.free hi hs
    · cases i <;> try exact absurd rfl hc
      all_goals try exact absurd rfl hi
      case tick => exact h.sound.exec_tick h.ready h.point h.closes (fun _ => h.ended) hs
      case exitSeq code =>
        exact settles_of_ended
          ((h.sound.exitSeq h.ready.opened h.point _).mono (fun _ _ => .inr) (fun _ _ => id) fun _ => id).doing h.closes
          (fun _ => h.ended) hs
      case startup => exact hstart
      case crc32 => exact returns (returns_pure _).giving
      case partition => exact returns (returns_pure _).giving
      case frame =>
        exact returns (Meets.giving (meets_ite (fun _ => returns_pure _) fun _ => meets_stop fun _ _ => hu))
      case dfuUpload image => exact returns (h.sound.dfuUpload h.ready _ image).doing

end Watch

end Sys2Proof.Machine
end

section
/-! PROOFS. Every step keeps the power machine's rules (O56). -/

namespace Sys2Proof.Machine

theorem closes_powerInv : Closes State.powerInv := ⟨fun _ => ⟨nofun, nofun, by simp⟩, fun _ _ => id⟩

/-- The supervisor has not exited and no exit code is written. -/
def State.running (s : State) : Prop := s.pcSup ≠ .exited ∧ s.exitCode = none

theorem calm_running : Calm False State.running where
  lands := by
    intro s t h l
    obtain ⟨hp, he⟩ := h
    cases l with
    | tick | nap => exact ⟨s.beginTick_ne_exited, he⟩
    | _ => exact ⟨hp, he⟩
  frame := id
  cfg h _ := h
  park _ h := h

/-- The watch of the power machine: from any state, whoever holds the lock, and faults are no concern. -/
def powerWatch : Watch := ⟨State.running, False, True, False⟩

theorem powerWatch_sound : powerWatch.Sound := ⟨calm_running, False.elim⟩

theorem powerWatch_opened : powerWatch.Opened := False.elim

theorem powerWatch_ready : powerWatch.Ready := ⟨powerWatch_opened, False.elim⟩

theorem powerWatch_seesNoPoint : powerWatch.SeesNoPoint := fun hp ⟨_, he⟩ => ⟨hp, he⟩

theorem powerInv_of_free {t : State} (h : powerWatch.free t) : t.powerInv := by
  obtain ⟨⟨hp, he⟩, hr, -⟩ := h
  obtain ⟨ht, hd⟩ := hr trivial
  exact ⟨ht, hd, by simp [hp, he]⟩

theorem powerInv_of_exited {t : State} (h : powerWatch.exited t) : t.powerInv := by
  obtain ⟨u, code, ⟨-, hr, -⟩, rfl⟩ := h
  obtain ⟨ht, hd⟩ := hr trivial
  exact ⟨ht, hd, by simp [State.exitWith]⟩

theorem powerWatch_boots : powerWatch.Boots State.running State.running State.running State.powerInv where
  shutSound := powerWatch_sound
  openedSound := powerWatch_sound
  knownSound := powerWatch_sound
  shutExits _ := powerInv_of_exited
  openedExits _ h := h.elim powerInv_of_exited fun h => powerInv_of_free h.2
  knownExits _ h := h.elim powerInv_of_exited fun h => powerInv_of_free h.2
  openedPoint := powerWatch_seesNoPoint
  knownPoint := powerWatch_seesNoPoint
  openedBus := powerWatch_opened
  knownBus := powerWatch_opened
  opens _ _ h _ := h
  knows _ _ h := h
  starts _ h := powerInv_of_free (powerWatch_seesNoPoint.free (p := .init) (by decide) h)

theorem powerWatch_uniform : powerWatch.Uniform State.powerInv where
  sound := powerWatch_sound
  ready := powerWatch_ready
  point := powerWatch_seesNoPoint
  closes := closes_powerInv
  free _ := powerInv_of_free
  exited _ := powerInv_of_exited
  runs _ _ := id
  marks _ _ _ _ := id
  resumes _ _ _ := id
  accepts _ _ _ _ := False.elim
  resets _ _ _ hs _ := powerWatch_boots.resume_startup closes_powerInv hs

theorem step_keeps_power {s : State} (h : s.powerInv) : Settles (¬powerWatch.safe) State.powerInv (step s) := by
  obtain ⟨ht, hd, he⟩ := h
  unfold step
  split
  · exact ⟨ht, hd, he⟩
  · next hrun =>
    have hs : powerWatch.free s := ⟨⟨hrun, by simpa [hrun] using he⟩, fun _ => ⟨ht, hd⟩, False.elim⟩
    have hstart (rest : List OpWord) :
        Settles (¬powerWatch.safe) State.powerInv (exec .startup { s with opPort := rest }) :=
      powerWatch_boots.exec_startup closes_powerInv ⟨hs, False.elim⟩
    split
    · unfold agentStep
      split
      · exact powerWatch_uniform.schedule hs
      · exact hstart s.opPort
    · next rest _ =>
      split
      · exact powerWatch_uniform.issue id (hstart rest) _ hs
      · exact id

/-- Settles O56: every operation of every agent, given from outside too, runs under `powerWatch`. -/
theorem stepKeepsPower : Obligations.StepKeepsPower := by
  unfold Obligations.StepKeepsPower
  intro s t hs h
  have hstep := step_keeps_power hs
  rwa [h] at hstep

end Sys2Proof.Machine
end

section
/-! PROOFS. What lands at a suspension point keeps the block's invariants, the requests' and the supervisor's. -/

namespace Sys2Proof.Machine

/-! The block. -/

/-- A started block has its bus, its dialect and a valid configuration (70_reset R707). -/
def State.based (s : State) : Prop :=
  s.up = true → s.busOpen = true ∧ s.dialect ≠ none ∧ s.handle ≠ none ∧ cfgValid s.cfg = true

/-- A block not started has no requests and nobody at `Lock()`. -/
def State.vacant (s : State) : Prop := s.up = false → s.reqs = [] ∧ s.waiters = []

/-- What waits at `Lock()` was accepted before it. -/
def State.admits (s : State) : Prop := ∀ w ∈ s.waiters, w.hold.accepted

theorem calm_based : Calm True State.based where
  lands := by
    intro s t h l
    cases l with
    | answer q hq ha c hc ps r => exact fun hup => (h hup).imp id (And.imp id (And.imp id hc))
    | _ => exact h
  frame := id
  cfg h hc hup := (h hup).imp id (And.imp id (And.imp id hc))
  park hn := absurd trivial hn

theorem calm_vacant : Calm True State.vacant where
  lands := by
    intro s t h l
    cases l with
    | request w hup => exact fun hdown => by simp [hup] at hdown
    | reply a r rs => exact fun hdown => by simpa [State.replyTo] using h hdown
    | answer q hq | wait q hq => exact fun hdown => by simp [h hdown] at hq
    | tick hdue => exact fun hdown => by simp [hdue.up] at hdown
    | _ => exact h
  frame := id
  cfg h _ := h
  park hn := absurd trivial hn

theorem State.admits_park {s : State} (h : s.admits) (a : Agent) {k : Hold} (hk : k.accepted) : (s.park a k).admits := by
  intro w hw
  obtain hw | hw := List.mem_append.mp hw
  · exact h w hw
  · rwa [List.mem_singleton.mp hw]

theorem calm_admits : Calm True State.admits where
  lands := by
    intro s t h l
    cases l with
    | wait q hq ha k hacc hreq ps p =>
      exact State.admits_park (s := { s with pcDfu := ps, inp := p }.markRunning q.id) h _ hacc
    | tick hdue k hacc => exact State.admits_park (s := s.beginTick) h _ hacc
    | _ => exact h
  frame := id
  cfg h _ := h
  park hn := absurd trivial hn

/-! The requests. -/

theorem State.eq_of_id_eq {s : State} (h : s.requestInv) {p q : Request} (hp : p ∈ s.reqs) (hq : q ∈ s.reqs)
    (he : p.id = q.id) : p = q := by
  have hnodup : (s.reqs.map Request.id).Nodup := h.1 ▸ List.nodup_range
  exact List.inj_on_of_nodup_map hnodup hp hq he

/-- A request that has arrived may run (45_control R450). -/
theorem State.requestInv_markRunning {s : State} (h : s.requestInv) {q : Request} (hq : q ∈ s.reqs) (ha : q.arrived = true) :
    (s.markRunning q.id).requestInv := by
  obtain ⟨hids, hreply⟩ := id h
  refine ⟨?_, fun p hp => ?_⟩
  · rw [State.markRunning_nextReq, ← hids]
    simp only [State.markRunning, List.map_map]
    exact List.map_congr_left fun p _ => by simp only [Function.comp_apply]; split <;> rfl
  · obtain ⟨p, hmem, rfl⟩ := List.mem_map.mp hp
    split
    · next he =>
      obtain rfl := State.eq_of_id_eq h hmem hq he
      have hpoint : p.point = .received := by simpa [Request.arrived] using ha
      have hnone := mt (hreply p hmem).mpr (by simp [hpoint])
      simpa using hnone
    · exact hreply p hmem

theorem State.requestInv_replyTo {s : State} (h : s.requestInv) (a : Agent) (r : Reply) : (s.replyTo a r).requestInv := by
  obtain ⟨hids, hreply⟩ := h
  refine ⟨?_, fun p hp => ?_⟩
  · rw [State.replyTo_nextReq, ← hids]
    simp only [State.replyTo, List.map_map]
    exact List.map_congr_left fun p _ => by simp only [Function.comp_apply]; split <;> rfl
  · obtain ⟨p, hmem, rfl⟩ := List.mem_map.mp hp
    split
    · simp
    · exact hreply p hmem

theorem calm_requestInv : Calm True State.requestInv where
  lands := by
    intro s t h l
    cases l with
    | request w hup =>
      obtain ⟨hids, hreply⟩ := h
      refine ⟨by simp [hids, List.range_succ], fun p hp => ?_⟩
      obtain hp | hp := List.mem_append.mp hp
      · exact hreply p hp
      · simp [List.mem_singleton.mp hp]
    | reply a r rs => exact State.requestInv_replyTo (s := { s with replies := rs }) h a r
    | answer q hq ha c hc ps r => exact State.requestInv_markRunning (s := { s with cfg := c, pcDfu := ps }) h hq ha
    | wait q hq ha k hacc hreq ps p => exact State.requestInv_markRunning (s := { s with pcDfu := ps, inp := p }) h hq ha
    | _ => exact h
  frame := id
  cfg h _ := h
  park hn := absurd trivial hn

/-! The supervisor. -/

/-- The supervisor waits for a tick or an exit, and nobody else does. -/
theorem State.supInv.ofSupervisor_iff {s : State} (h : s.supInv) {w : Waiter} (hw : w ∈ s.waiters) :
    w.agent = .supervisor ↔ w.hold.ofSupervisor := by
  obtain ⟨-, -, hhold, -⟩ := h
  exact hhold w hw

/-- Nobody at `Lock()` is the supervisor. -/
def State.noSupWaits (s : State) : Prop := ∀ w ∈ s.waiters, w.agent ≠ .supervisor ∧ ¬w.hold.ofSupervisor

theorem State.noSupWaits_of_supInv {s : State} (h : s.supInv) (hp : s.pcSup = .init ∨ s.pcSup = .sleeping) : s.noSupWaits := by
  obtain ⟨hiff, -, hhold, -⟩ := h
  intro w hw
  have hnot : ¬(s.pcSup = .waitLock ∨ s.pcSup = .exiting) := by obtain h | h := hp <;> simp [h]
  have hne : w.agent ≠ .supervisor := fun ha => hnot (hiff.mpr ⟨w, hw, ha⟩)
  exact ⟨hne, mt (hhold w hw).mpr hne⟩

theorem State.supInv_of_noSupWaits {s : State} (h : s.noSupWaits)
    (hp : s.pcSup = .init ∨ s.pcSup = .sleeping ∨ s.pcSup = .exited) : s.supInv := by
  have hwaits : ¬(s.pcSup = .waitLock ∨ s.pcSup = .exiting) := by obtain h | h | h := hp <;> simp [h]
  have hpoints : s.pcSup ≠ .sample ∧ s.pcSup ≠ .feed ∧ s.pcSup ≠ .step := by obtain h | h | h := hp <;> simp [h]
  refine ⟨⟨fun hw => absurd hw hwaits, fun ⟨w, hw, ha⟩ => absurd ha (h w hw).1⟩, ?_, fun w hw => ?_, hpoints⟩
  · rw [List.filter_eq_nil_iff.mpr fun w hw => by simpa using (h w hw).1]
    simp
  · exact ⟨fun ha => absurd ha (h w hw).1, fun hk => absurd hk (h w hw).2⟩

/-- The supervisor goes to `Lock()`. -/
theorem State.supInv_park_supervisor {s : State} (h : s.noSupWaits) (hp : s.pcSup = .waitLock ∨ s.pcSup = .exiting) {k : Hold}
    (hk : k.ofSupervisor) : (s.park .supervisor k).supInv := by
  have hnone : s.waiters.filter (fun w => w.agent == .supervisor) = [] :=
    List.filter_eq_nil_iff.mpr fun w hw => by simpa using (h w hw).1
  have hpoints : s.pcSup ≠ .sample ∧ s.pcSup ≠ .feed ∧ s.pcSup ≠ .step := by obtain h | h := hp <;> simp [h]
  refine ⟨⟨fun _ => ⟨⟨.supervisor, k⟩, by simp, rfl⟩, fun _ => hp⟩, by simp [hnone], fun w hw => ?_, hpoints⟩
  obtain hw | hw := List.mem_append.mp hw
  · exact ⟨fun ha => absurd ha (h w hw).1, fun hk => absurd hk (h w hw).2⟩
  · rw [List.mem_singleton.mp hw]
    exact ⟨fun _ => hk, fun _ => rfl⟩

/-- A request's agent goes to `Lock()`. -/
theorem State.supInv_park_request {s : State} (h : s.supInv) (n : Nat) {k : Hold} (hk : ¬k.ofSupervisor) :
    (s.park (.ctrl n) k).supInv := by
  obtain ⟨hiff, hone, hhold, hpoints⟩ := h
  refine ⟨?_, by simpa using hone, fun w hw => ?_, hpoints⟩
  · simpa [or_and_right, exists_or] using hiff
  · obtain hw | hw := List.mem_append.mp hw
    · exact hhold w hw
    · rw [List.mem_singleton.mp hw]
      exact ⟨nofun, fun h => absurd h hk⟩

theorem calm_supInv : Calm True State.supInv where
  lands := by
    intro s t h l
    cases l with
    | wait q hq ha k hacc hreq ps p =>
      exact State.supInv_park_request (s := { s with pcDfu := ps, inp := p }.markRunning q.id) h _ hreq
    | tick hdue k hacc hsup hpoint =>
      have hno : s.noSupWaits := State.noSupWaits_of_supInv h hdue.rests
      exact State.supInv_park_supervisor (s := s.beginTick) hno hpoint hsup
    | nap hdue hpoint =>
      have hno : s.noSupWaits := State.noSupWaits_of_supInv h hdue.rests
      exact State.supInv_of_noSupWaits hno (.inr (.inl hpoint))
    | _ => exact h
  frame := id
  cfg h _ := h
  park hn := absurd trivial hn

/-- The supervisor runs, and so does not wait. -/
def State.supRuns (s : State) : Prop := s.cur = .supervisor ∧ s.noSupWaits

theorem calm_supRuns : Calm True State.supRuns where
  lands := by
    intro s t h l
    obtain ⟨hcur, hno⟩ := h
    cases l with
    | wait q hq ha k hacc hreq =>
      refine ⟨hcur, fun w hw => ?_⟩
      obtain hw | hw := List.mem_append.mp hw
      · exact hno w hw
      · rw [List.mem_singleton.mp hw]
        exact ⟨nofun, hreq⟩
    | tick hdue => exact absurd hcur hdue.other
    | _ => exact ⟨hcur, hno⟩
  frame := id
  cfg h _ := h
  park hn := absurd trivial hn

end Sys2Proof.Machine
end

section
/-! PROOFS. A reset builds the block's invariants (70_reset R706, R707), and the state before it has every invariant (O59). -/

namespace Sys2Proof.Machine

theorem State.blockInv.unlocked {s : State} (h : s.blockInv) : s.holder = none ∧ s.session = none := by
  obtain ⟨hholder, hsession, -⟩ := h
  exact ⟨hholder, hsession⟩

theorem State.blockInv.down {s : State} (h : s.blockInv) (hup : s.up = false) : s.reqs = [] ∧ s.waiters = [] := by
  obtain ⟨-, -, -, hdown, -⟩ := h
  obtain ⟨hreqs, hwait, -⟩ := hdown hup
  exact ⟨hreqs, hwait⟩

/-- A block that neither started nor exited has no open bus. -/
theorem State.blockInv.shut {s : State} (h : s.blockInv) (hrun : s.pcSup ≠ .exited) (hup : s.up = false) :
    s.busOpen = false := by
  obtain ⟨-, -, -, hdown, -⟩ := h
  obtain ⟨-, -, hexit⟩ := hdown hup
  simpa using mt hexit hrun

/-- The invariants of the block and its requests. -/
def State.ordered (s : State) : Prop := s.blockInv ∧ s.requestInv

/-- The invariants of the block, its requests and its supervisor. -/
def State.orderly (s : State) : Prop := s.ordered ∧ s.supInv

theorem closes_orderly : Closes State.orderly where
  cut _ := ⟨⟨⟨rfl, rfl, nofun, fun _ => ⟨rfl, rfl, nofun⟩, nofun⟩, rfl, nofun⟩,
    State.supInv_of_noSupWaits nofun (.inl rfl)⟩
  result _ _ := id

theorem closes_ordered : Closes State.ordered := ⟨fun s => (closes_orderly.cut s).1, fun _ _ => id⟩

/-- Settles O59: after reset there is no request, nobody waits, and nothing is known of the companion. -/
theorem resetMeetsInvariants : Obligations.ResetMeetsInvariants := by
  unfold Obligations.ResetMeetsInvariants
  have horderly : State.reset.orderly := closes_orderly.cut (State.initial Config.params)
  obtain ⟨⟨hblock, hrequest⟩, hsup⟩ := horderly
  exact ⟨⟨rfl, nofun, nofun⟩, closes_powerInv.cut (State.initial Config.params), hblock, hrequest, hsup, .nil, nofun⟩

/-! The reset. -/

/-- The block has not started, and no request has come. -/
def State.fresh (s : State) : Prop := s.up = false ∧ s.reqs = [] ∧ s.waiters = [] ∧ s.nextReq = 0

theorem calm_fresh : Calm True State.fresh where
  lands := by
    intro s t h l
    obtain ⟨hup, hreqs, hwait, hnext⟩ := h
    cases l with
    | request w hup' => simp [hup] at hup'
    | reply a r rs => exact ⟨hup, by simp [State.replyTo, hreqs], hwait, hnext⟩
    | answer q hq | wait q hq => simp [hreqs] at hq
    | tick hdue => exact absurd (hup.symm.trans hdue.up) nofun
    | _ => exact ⟨hup, hreqs, hwait, hnext⟩
  frame := id
  cfg h _ := h
  park hn := absurd trivial hn

/-- The bus is open, under a valid configuration (70_reset R700, R703). -/
def State.wired (s : State) : Prop := s.busOpen = true ∧ s.handle ≠ none ∧ cfgValid s.cfg = true

theorem calm_wired : Calm True State.wired where
  lands := by
    intro s t h l
    cases l with
    | answer q hq ha c hc ps r => exact h.imp id (And.imp id hc)
    | _ => exact h
  frame := id
  cfg h hc := h.imp id (And.imp id hc)
  park hn := absurd trivial hn

theorem calm_dialect : Calm True fun s => s.dialect ≠ none where
  lands := fun h l => by cases l <;> exact h
  frame := id
  cfg h _ := h
  park hn := absurd trivial hn

/-- A block with no request and nobody at `Lock()` is in order where the lock is free and it started whole or exited. -/
theorem orderly_of_quiet {s : State} (hreqs : s.reqs = []) (hwait : s.waiters = []) (hnext : s.nextReq = 0)
    (hlock : s.holder = none ∧ s.session = none) (hbased : s.based)
    (hpoint : s.pcSup = .exited ∨ s.up = true ∧ s.pcSup = .init) : s.orderly := by
  refine ⟨⟨⟨hlock.1, hlock.2, hbased, fun hdown => ⟨hreqs, hwait, fun _ => ?_⟩, by simp [hwait]⟩, by simp [hreqs, hnext],
    by simp [hreqs]⟩, State.supInv_of_noSupWaits (by simp [State.noSupWaits, hwait]) ?_⟩
  · exact hpoint.resolve_right fun h => by simp [h.1] at hdown
  · exact hpoint.elim (fun h => .inr (.inr h)) fun h => .inl h.2

theorem orderly_exitWith {s : State} (h : s.fresh) (hlock : s.holder = none ∧ s.session = none) (code : Fin 3) :
    (s.exitWith code).orderly := by
  obtain ⟨hup, hreqs, hwait, hnext⟩ := h
  exact orderly_of_quiet hreqs hwait hnext hlock (fun h => absurd (hup.symm.trans h) nofun) (.inl rfl)

/-- The watch of a run that follows the lock. -/
def lockWatch (I : State → Prop) (power safe : Prop) : Watch := ⟨I, True, power, safe⟩

section Boot

variable {power safe : Prop}

theorem lockWatch_sound {I : State → Prop} (hI : Calm True I) (hs : safe → power) : (lockWatch I power safe).Sound :=
  ⟨hI, fun h => ⟨trivial, hs h⟩⟩

/-- A reset that ends leaves the block in order, whether it started or exited. -/
theorem lockWatch_boots (hs : safe → power) {I : State → Prop} :
    (lockWatch I power safe).Boots State.fresh (fun s => s.fresh ∧ s.wired) (fun s => (s.fresh ∧ s.wired) ∧ s.dialect ≠ none)
      State.orderly where
  shutSound := lockWatch_sound calm_fresh hs
  openedSound := lockWatch_sound (calm_fresh.and calm_wired) hs
  knownSound := lockWatch_sound ((calm_fresh.and calm_wired).and calm_dialect) hs
  shutExits := by
    rintro _ ⟨u, code, ⟨hi, -, hl⟩, rfl⟩
    exact orderly_exitWith hi (hl trivial) code
  openedExits := by
    rintro _ (⟨u, code, ⟨⟨hfresh, -⟩, -, hl⟩, rfl⟩ | ⟨hlax, -⟩)
    · exact orderly_exitWith hfresh (hl trivial) code
    · exact absurd trivial hlax
  knownExits := by
    rintro _ (⟨u, code, ⟨⟨⟨hfresh, -⟩, -⟩, -, hl⟩, rfl⟩ | ⟨hlax, -⟩)
    · exact orderly_exitWith hfresh (hl trivial) code
    · exact absurd trivial hlax
  openedPoint _ := id
  knownPoint _ := id
  openedBus := fun _ _ ⟨_, hopen, _⟩ => hopen
  knownBus := fun _ _ ⟨⟨_, hopen, _⟩, _⟩ => hopen
  opens _ _ hi hc := ⟨hi, rfl, nofun, hc⟩
  knows _ _ hi := ⟨hi, nofun⟩
  starts := by
    rintro s ⟨⟨⟨⟨-, hreqs, hwait, hnext⟩, hopen, hhandle, hcfg⟩, hdialect⟩, -, hl⟩
    exact orderly_of_quiet hreqs hwait hnext (hl trivial) (fun _ => ⟨hopen, hdialect, hhandle, hcfg⟩) (.inr ⟨rfl, rfl⟩)

/-- A block not started has nothing to lose. -/
theorem fresh_of_down {s : State} (hb : s.blockInv) (hr : s.requestInv) (hup : s.up = false) : s.fresh := by
  obtain ⟨hreqs, hwait⟩ := hb.down hup
  obtain ⟨hids, -⟩ := hr
  refine ⟨hup, hreqs, hwait, ?_⟩
  simpa [hreqs] using (congrArg List.length hids).symm

end Boot

end Sys2Proof.Machine
end

section
/-! PROOFS. Every step keeps the block's invariants (O57). Whoever runs is watched for the block and its requests; along the block's
own steps, the supervisor's own run also for its being at no wait, every other run also for the supervisor's waits. -/

namespace Sys2Proof.Machine

/-- What of the block's invariants holds inside a hold too. -/
def State.stands (s : State) : Prop :=
  ((s.based ∧ s.vacant) ∧ (s.up = false → s.busOpen = false)) ∧ s.admits ∧ s.requestInv

theorem calm_shut : Calm True fun s => s.up = false → s.busOpen = false where
  lands := fun h l => by cases l <;> exact h
  frame := id
  cfg h _ := h
  park hn := absurd trivial hn

theorem calm_stands : Calm True State.stands :=
  ((calm_based.and calm_vacant).and calm_shut).and (calm_admits.and calm_requestInv)

theorem stands_of_ordered {s : State} (h : s.ordered) (hrun : s.pcSup ≠ .exited) : s.stands := by
  obtain ⟨hblock, hreq⟩ := h
  obtain ⟨-, -, hup, -, hacc⟩ := id hblock
  exact ⟨⟨⟨hup, hblock.down⟩, hblock.shut hrun⟩, hacc, hreq⟩

theorem ordered_of_stands {s : State} (h : s.stands) (hlock : s.holder = none ∧ s.session = none) : s.ordered := by
  obtain ⟨⟨⟨hup, hdown⟩, hshut⟩, hacc, hreq⟩ := h
  exact ⟨⟨hlock.1, hlock.2, hup, fun h => ⟨(hdown h).1, (hdown h).2, fun ho => by simp [hshut h] at ho⟩, hacc⟩, hreq⟩

section Stand

variable {I : State → Prop}

/-- A watch of the block's invariants that follows the lock; faults are no concern. -/
def standWatch (I : State → Prop) : Watch := lockWatch I False False

theorem standWatch_sound (hI : Calm True I) : (standWatch I).Sound := lockWatch_sound hI id

theorem standWatch_ready : (standWatch I).Ready := ⟨False.elim, False.elim⟩

theorem standWatch_free {s : State} (hI : I s) (hlock : s.holder = none ∧ s.session = none) : (standWatch I).free s :=
  ⟨hI, False.elim, fun _ => hlock⟩

theorem ordered_of_free (hI : ∀ s, I s → s.stands) {t : State} (h : (standWatch I).free t) : t.ordered := by
  obtain ⟨hi, -, hl⟩ := h
  exact ordered_of_stands (hI t hi) (hl trivial)

theorem ordered_of_exited (hI : ∀ s, I s → s.stands) {t : State} (h : (standWatch I).exited t) : t.ordered := by
  obtain ⟨u, code, ⟨hi, -, hl⟩, rfl⟩ := h
  exact ordered_of_stands (s := u.exitWith code) (hI u hi) (hl trivial)

end Stand

/-! STARTUP. -/

theorem Settles.mono {F : Prop} {M N : State → Prop} {o : Host.Outcome State Fault Refusal} (h : Settles F M o)
    (hN : ∀ t, M t → N t) : Settles F N o := by
  cases o with
  | next t => exact hN t h
  | fault f => exact h
  | refused r => exact h

theorem startup_keeps_orderly {s : State} (h : s.ordered) : Settles (¬False) State.orderly (exec .startup s) := by
  obtain ⟨hb, hr⟩ := h
  by_cases hup : s.up = true
  · obtain ⟨-, -, hbased, -⟩ := hb
    have hstop : exec .startup s = .fault .alreadyStarted := doing_stop (startup_open (hbased hup).1)
    rw [hstop]
    exact id
  · have hfresh : s.fresh := fresh_of_down hb hr (by simpa using hup)
    exact (lockWatch_boots (power := False) (safe := False) (I := State.fresh) id).exec_startup closes_orderly
      ⟨⟨hfresh, False.elim, fun _ => hb.unlocked⟩, False.elim⟩

/-! Whoever runs, and operations given from outside. -/

theorem stands_markRunning {s : State} (h : s.stands) {q : Request} (hq : q ∈ s.reqs) (ha : q.arrived = true) :
    (s.markRunning q.id).stands := by
  obtain ⟨⟨⟨hbased, hvacant⟩, hshut⟩, hacc, hreq⟩ := h
  exact ⟨⟨⟨hbased, fun hdown => by simp [(hvacant hdown).1] at hq⟩, hshut⟩, hacc, State.requestInv_markRunning hreq hq ha⟩

theorem stands_resuming {s : State} (h : s.stands) (w : Waiter) : (s.resuming w).stands := by
  obtain ⟨⟨⟨hbased, hvacant⟩, hshut⟩, hacc, hreq⟩ := h
  refine ⟨⟨⟨hbased, fun hdown => ⟨(hvacant hdown).1, ?_⟩⟩, hshut⟩, fun x hx => hacc x (List.mem_of_mem_erase hx), hreq⟩
  simp [State.resuming, (hvacant hdown).2]

theorem ne_startup_of_stands {s : State} (h : s.stands) {w : Waiter} (hw : w ∈ s.waiters) : w.hold ≠ .startup := by
  obtain ⟨-, hacc, -⟩ := h
  exact fun e => by simpa [e, Hold.accepted] using hacc w hw

theorem standWatch_uniform : (standWatch State.stands).Uniform State.ordered where
  sound := standWatch_sound calm_stands
  ready := standWatch_ready
  point _ := id
  closes := closes_ordered
  free _ := ordered_of_free fun _ => id
  exited _ := ordered_of_exited fun _ => id
  runs _ _ := id
  marks _ _ hq ha h := stands_markRunning h hq ha
  resumes _ x _ h := stands_resuming h x
  accepts _ _ _ _ := False.elim
  resets _ _ hx hs e := absurd e (ne_startup_of_stands hs.1 hx)

theorem State.ordered.free {s : State} (h : s.ordered) (hrun : s.pcSup ≠ .exited) : (standWatch State.stands).free s :=
  standWatch_free (stands_of_ordered h hrun) h.1.unlocked

/-! The supervisor's own run. -/

/-- What holds along a run of the supervisor. -/
def State.supStands (s : State) : Prop := s.stands ∧ s.supRuns

theorem calm_supStands : Calm True State.supStands := calm_stands.and calm_supRuns

theorem supStands_seesNoPoint : (standWatch State.supStands).SeesNoPoint := fun _ h => h

theorem orderly_of_ended {t : State} (h : (standWatch State.supStands).ended t ∨ (standWatch State.supStands).waits t) :
    t.orderly := by
  obtain (⟨hfree, hsleeping⟩ | hexit) | ⟨hlax, -⟩ := h
  · obtain ⟨⟨-, -, hno⟩, -⟩ := id hfree
    exact ⟨ordered_of_free (fun _ => And.left) hfree, State.supInv_of_noSupWaits hno (.inr (.inl hsleeping))⟩
  · refine ⟨ordered_of_exited (fun _ => And.left) hexit, ?_⟩
    obtain ⟨u, code, ⟨⟨-, -, hno⟩, -⟩, rfl⟩ := hexit
    exact State.supInv_of_noSupWaits hno (.inr (.inr rfl))
  · exact absurd trivial hlax

/-! Every other run. -/

/-- What holds along a run of another agent. -/
def State.othersStand (s : State) : Prop := s.stands ∧ s.supInv

theorem calm_othersStand : Calm True State.othersStand := calm_stands.and calm_supInv

theorem orderly_of_free {t : State} (h : (standWatch State.othersStand).free t) : t.orderly := by
  obtain ⟨⟨-, hsup⟩, -⟩ := id h
  exact ⟨ordered_of_free (fun _ => And.left) h, hsup⟩

/-- When the supervisor goes on from `Lock()`, it waits there no more. -/
theorem supRuns_resuming {s : State} (h : s.supInv) {w : Waiter} (hw : w ∈ s.waiters) (ha : w.agent = .supervisor) :
    (s.resuming w).supRuns := by
  obtain ⟨-, hone, hhold, -⟩ := h
  have hperm := ((List.perm_cons_erase hw).filter fun x => x.agent == .supervisor).length_eq
  simp only [ha, beq_self_eq_true, List.filter_cons_of_pos, List.length_cons] at hperm
  have hnone : (s.waiters.erase w).filter (fun x => x.agent == .supervisor) = [] :=
    List.length_eq_zero_iff.mp (by omega)
  refine ⟨ha, fun x hx => ?_⟩
  have hne : x.agent ≠ .supervisor := by simpa using List.filter_eq_nil_iff.mp hnone x hx
  exact ⟨hne, mt (hhold x (List.mem_of_mem_erase hx)).mpr hne⟩

/-- When another agent goes on from `Lock()`, the supervisor waits there as before. -/
theorem supInv_resuming {s : State} (h : s.supInv) {w : Waiter} (ha : w.agent ≠ .supervisor) : (s.resuming w).supInv := by
  obtain ⟨hiff, hone, hhold, hpoints⟩ := h
  refine ⟨hiff.trans ⟨?_, ?_⟩, ?_, fun x hx => hhold x (List.mem_of_mem_erase hx), hpoints⟩
  · rintro ⟨x, hx, hxa⟩
    have hne : x ≠ w := fun e => ha (e ▸ hxa)
    exact ⟨x, (List.mem_erase_of_ne hne).mpr hx, hxa⟩
  · rintro ⟨x, hx, hxa⟩
    exact ⟨x, List.mem_of_mem_erase hx, hxa⟩
  · exact ((List.erase_sublist.filter _).length_le).trans hone

theorem runTask_keeps_orderly {s : State} {k : Task} (hk : k ∈ s.tasks) (hs : (standWatch State.othersStand).free s) :
    Settles (¬False) State.orderly (runTask k s) := by
  have hothers : (standWatch State.othersStand).Sound := standWatch_sound calm_othersStand
  have hself : (standWatch State.supStands).Sound := standWatch_sound calm_supStands
  obtain ⟨⟨hstands, hsup⟩, -, hlock⟩ := id hs
  have hlock := hlock trivial
  cases k with
  | tick =>
    have hno : s.noSupWaits := State.noSupWaits_of_supInv hsup (Watch.supReady_of_tick_mem hk)
    have hbegin : (standWatch State.supStands).free { s with cur := .supervisor } :=
      standWatch_free (s := { s with cur := .supervisor }) ⟨hstands, rfl, hno⟩ hlock
    exact hself.exec_tick standWatch_ready supStands_seesNoPoint closes_orderly (fun _ => orderly_of_ended) hbegin
  | request k =>
    obtain ⟨q, hq, rfl, ha⟩ := Watch.arrived_of_request_mem hk
    have hbegin : (standWatch State.othersStand).free { s.markRunning q.id with cur := .ctrl q.id } :=
      standWatch_free (s := { s.markRunning q.id with cur := .ctrl q.id }) ⟨stands_markRunning hstands hq ha, hsup⟩ hlock
    exact hothers.runRequest standWatch_ready closes_orderly (fun _ => orderly_of_free) ⟨q, hq, rfl⟩ hbegin
  | resume w =>
    have hw : w ∈ s.waiters := State.mem_waiters_of_mem_tasks hk
    have hreset : w.hold ≠ .startup := ne_startup_of_stands hstands hw
    by_cases ha : w.agent = .supervisor
    · have hhold : w.hold.ofSupervisor := (hsup.ofSupervisor_iff hw).mp ha
      exact Watch.settles_of_ended (hself.resume_supervisor standWatch_ready supStands_seesNoPoint hhold) closes_orderly
        (fun _ => orderly_of_ended)
        (standWatch_free (s := s.resuming w) ⟨stands_resuming hstands w, supRuns_resuming hsup hw ha⟩ hlock)
    · have hhold : ¬w.hold.ofSupervisor := mt (hsup.ofSupervisor_iff hw).mpr ha
      exact (hothers.resume_request standWatch_ready hhold hreset False.elim).settles closes_orderly (fun _ => orderly_of_free)
        (standWatch_free (s := s.resuming w) ⟨stands_resuming hstands w, supInv_resuming hsup ha⟩ hlock)
  | send a => exact orderly_of_free (Lasts.send hothers.steady_free.lands hs a)
  | pass => exact Watch.runIdle_settles hothers.steady_free (fun _ => orderly_of_free) closes_orderly.cut hs

theorem step_keeps_ordered {s : State} (h : s.ordered) : Settles (¬False) State.ordered (step s) ∧
    (s.opPort = [] → s.supInv → Settles (¬False) State.orderly (step s)) := by
  unfold step
  split
  · exact ⟨h, fun _ hsup => ⟨h, hsup⟩⟩
  · next hrun =>
    have hfree := h.free hrun
    split
    · unfold agentStep
      split
      · refine ⟨standWatch_uniform.schedule hfree, fun _ hsup => ?_⟩
        have hsound : (standWatch State.othersStand).Sound := standWatch_sound calm_othersStand
        exact hsound.schedule closes_orderly (fun _ => orderly_of_free) (fun _ hu _ hk => runTask_keeps_orderly hk hu)
          (standWatch_free ⟨hfree.1, hsup⟩ h.1.unlocked)
      · have hend := startup_keeps_orderly h
        exact ⟨hend.mono fun _ => And.left, fun _ _ => hend⟩
    · next w rest hport =>
      refine ⟨?_, fun hempty => by simp [hempty] at hport⟩
      split
      · have hend := (startup_keeps_orderly (s := { s with opPort := rest }) h).mono fun _ => And.left
        exact standWatch_uniform.issue id hend _ hfree
      · exact id

/-- Settles O57: whoever runs keeps the block's invariants and the requests'; along the block's own steps, the supervisor's own run
ends asleep or exited, and every other run keeps the supervisor where it waits. -/
theorem stepKeepsBlock : Obligations.StepKeepsBlock := by
  unfold Obligations.StepKeepsBlock
  intro s t hblock hrequest h
  obtain ⟨hkeeps, hsup⟩ := step_keeps_ordered ⟨hblock, hrequest⟩
  rw [h] at hkeeps hsup
  obtain ⟨hb, hr⟩ := hkeeps
  exact ⟨hb, hr, fun hport hs => (hsup hport hs).2⟩

end Sys2Proof.Machine
end

section
/-! PROOFS. From every state with the invariants and an empty port, a step answers a next state (O60). -/

namespace Sys2Proof.Machine

/-- What a started block serves with: its bus, its dialect, and accepted waits. -/
def State.serves (s : State) : Prop := (s.busOpen = true ∧ s.dialect ≠ none) ∧ s.admits

theorem calm_serves : Calm True State.serves := by
  have calm_bus : Calm True fun s => s.busOpen = true :=
    ⟨fun h l => by cases l <;> exact h, id, fun h _ => h, fun hn => absurd trivial hn⟩
  exact (calm_bus.and calm_dialect).and calm_admits

/-- The watch that admits no fault. -/
def serveWatch : Watch := lockWatch State.serves True True

theorem serveWatch_uniform : serveWatch.Uniform fun _ => True where
  sound := lockWatch_sound calm_serves id
  ready := ⟨fun _ _ ⟨⟨hopen, _⟩, _⟩ => hopen, fun _ _ ⟨⟨_, hdialect⟩, _⟩ => hdialect⟩
  point _ := id
  closes := ⟨fun _ => trivial, fun _ _ => id⟩
  free _ _ := trivial
  exited _ _ := trivial
  runs _ _ := id
  marks _ _ _ _ := id
  resumes _ _ _ h := ⟨h.1, fun x hx => h.2 x (List.mem_of_mem_erase hx)⟩
  accepts _ _ hx h _ := h.2 _ hx
  resets := fun _ _ hx ⟨⟨_, hacc⟩, _⟩ e => by simpa [e, Hold.accepted] using hacc _ hx

theorem agentStep_serves {s : State} (hp : s.powerInv) (h : s.ordered) (hrun : s.pcSup ≠ .exited) :
    Settles (¬True) (fun _ => True) (agentStep s) := by
  obtain ⟨htimed, hissued, -⟩ := hp
  obtain ⟨⟨hfree, hsession, hbased, -, hacc⟩, hreq⟩ := id h
  unfold agentStep
  split
  · next hup =>
    obtain ⟨hopen, hdialect, -⟩ := hbased hup
    exact serveWatch_uniform.schedule ⟨⟨⟨hopen, hdialect⟩, hacc⟩, fun _ => ⟨htimed, hissued⟩, fun _ => ⟨hfree, hsession⟩⟩
  · next hup =>
    have hup : s.up = false := by simpa using hup
    have hshut : s.busOpen = false := h.1.shut hrun hup
    have hend := (lockWatch_boots (power := True) (safe := True) (I := State.fresh) id).exec_startup closes_orderly
      ⟨⟨fresh_of_down h.1 hreq hup, fun _ => ⟨htimed, hissued⟩, fun _ => ⟨hfree, hsession⟩⟩, fun _ => ⟨hshut, hrun⟩⟩
    exact hend.mono fun _ _ => trivial

/-- Settles O60: the watch of the block's own steps admits no fault, and only the port refuses. -/
theorem blockNeverFaults : Obligations.BlockNeverFaults := by
  unfold Obligations.BlockNeverFaults
  intro s hpower hblock hrequest hport
  have hend : Settles (¬True) (fun _ => True) (step s) := by
    unfold step
    split
    · trivial
    · next hrun =>
      rw [hport]
      exact agentStep_serves hpower ⟨hblock, hrequest⟩ hrun
  cases h : step s with
  | next t => exact ⟨t, rfl⟩
  | fault f =>
    rw [h] at hend
    exact absurd trivial hend
  | refused r =>
    rw [h] at hend
    exact absurd trivial hend

end Sys2Proof.Machine
end

section
/-! PROOFS. The lock: a transaction by an agent that does not hold it is a fault, and whoever wants a held lock waits (O22). -/

namespace Sys2Proof.Machine

section Denied

variable {α β : Type} {s : State}

/-- `x` stops at once: the running agent does not hold the lock (10_state R32). -/
def Denied (s : State) (x : Op α) : Prop := x s = .error (.stop .transactionByNonHolder) s

theorem Denied.bind {x : Op α} (h : Denied s x) (f : α → Op β) : Denied s (x >>= f) := Op.bind_error h

theorem Denied.giving {x : Op α} (h : Denied s x) (f : α → Value) : finish (giving f x) s = .fault .transactionByNonHolder :=
  giving_stop h

theorem Denied.doing {x : Op Unit} (h : Denied s x) : finish (doing x) s = .fault .transactionByNonHolder := doing_stop h

/-- The bus is open, and the running agent does not hold the lock. -/
def State.denies (s : State) : Prop := s.busOpen = true ∧ s.holder ≠ some s.cur

theorem State.denies.guardBus (h : s.denies) : Denied s guardBus := by
  obtain ⟨-, hh, -⟩ | ⟨-, -, e⟩ | ⟨ho, -⟩ := guardBus_cases s
  · exact absurd hh h.2
  · exact e
  · exact absurd h.1 (by simp [ho])

theorem State.denies.rdreg (h : s.denies) (r : Byte) (n : Nat) : Denied s (rdreg r n) :=
  retryLoop_error (h.guardBus.bind _) _

theorem State.denies.wrreg (h : s.denies) (r : Byte) (data : List Byte) : Denied s (wrreg r data) :=
  retryLoop_error (h.guardBus.bind _) _

theorem State.denies.rdu8 (h : s.denies) (r : Byte) : Denied s (rdu8 r) := (h.rdreg r 1).bind _

theorem State.denies.rdword (h : s.denies) (r : Byte) : Denied s (rdword r) := (h.rdreg r 2).bind _

theorem State.denies.rdu16 (h : s.denies) (hd : s.dialect = some .two) (r : Byte) : Denied s (rdu16 r) := by
  unfold Machine.rdu16 Denied
  rw [Op.bind_ok (Op.get_run s), hd]
  exact h.rdword r

theorem State.denies.wruN (h : s.denies) (k : Nat) (r : Byte) {v : Nat} (hv : v < 256 ^ k) : Denied s (wruN k r v) := by
  unfold Machine.wruN
  rw [if_pos hv]
  exact h.wrreg _ _

theorem State.denies.getUsb (h : s.denies) {p : Int} (hp : portLegal p = true) : Denied s (getUsb p) := by
  unfold Machine.getUsb
  rw [if_pos hp]
  exact (h.rdu8 _).bind _

theorem State.denies.setUsb (h : s.denies) {p : Int} (hp : portLegal p = true) (on : Bool) : Denied s (setUsb p on) := by
  unfold Machine.setUsb
  rw [if_pos hp]
  exact h.wruN 1 _ (by cases on <;> decide)

theorem State.denies.requestStandby (h : s.denies) {seconds : Nat} (hs : seconds < 256 ^ 4) :
    Denied s (requestStandby seconds) := by
  unfold Machine.requestStandby Denied
  rw [Op.bind_ok (Op.get_run s), if_pos hs]
  exact h.wrreg _ _

theorem State.denies.dfuStart (h : s.denies) {n : Nat} (hn : imageSizeLegal n = true) : Denied s (dfuStart n) := by
  have hsize := (imageSizeLegal_iff n).mp hn
  unfold Machine.dfuStart
  rw [if_pos hn]
  exact h.wruN 4 _ (by omega)

theorem State.denies.dfuBlock (h : s.denies) {i : Nat} {d : List Byte} (hf : frameInRange i d = true) :
    Denied s (dfuBlock i d) := by
  have hframe : frame i d s = .ok (frameBytes i d) s := by
    unfold frame
    rw [if_pos hf]
    rfl
  unfold Machine.dfuBlock Denied
  rw [Op.bind_ok hframe]
  exact h.wrreg _ _

/-- The first transaction of an operation is denied to an agent that does not hold the lock. -/
theorem exec_denied {i : Instr} (hwf : i.wf = true ∨ (∃ r n, i = .rdreg r n) ∨ ∃ r data, i = .wrreg r data)
    (hi : isPureRead i = true ∨ writeTarget i ≠ none ∨ i = .rdDfuStatus) (hget : ∀ p, i = .getUsb p → portLegal p = true)
    (hset : ∀ p on, i = .setUsb p on → portLegal p = true) (hd : s.dialect = some .two) (h : s.denies) :
    exec i s = .fault .transactionByNonHolder := by
  cases i
  case rdreg | rdDevid => exact (h.rdreg _ _).giving _
  case rdHwver | rdFwver | rdu32 => exact ((h.rdreg _ _).bind _).giving _
  case rdWdt | rdPon | rdVin | rdVscap | rdIin | rdTmcu | rdTpcb | rdDfuBw | rdu16 => exact (h.rdu16 hd _).giving _
  case readMeasurements => exact ((h.rdu16 hd _).bind _).giving _
  case rdu8 => exact (h.rdu8 _).giving _
  case rdPstate | rdDfuStatus => exact ((h.rdu8 _).bind _).giving _
  case rdword => exact (h.rdword _).giving _
  case rdUsb0 | rdUsb1 | rdUsb2 | rdUsb3 => exact (h.getUsb rfl).giving _
  case getUsb p => exact (h.getUsb (hget p rfl)).giving _
  case wrreg => exact (h.wrreg _ _).doing
  case wdArm | wdFeed => exact (h.wruN 2 0x10 (v := wdTimeoutCs) (by decide)).doing
  case wdDisable => exact (h.wruN 2 0x10 (v := 0) (by decide)).doing
  case wrShutdown | requestShutdown => exact (h.wruN 1 0x30 (v := 1) (by decide)).doing
  case wrDfuCommit => exact (h.wruN 1 0x44 (v := 0) (by decide)).doing
  case wrDfuAbort => exact (h.wruN 1 0x45 (v := 0) (by decide)).doing
  case wrUsb0 | wrUsb1 | wrUsb2 | wrUsb3 => exact (h.setUsb rfl _).doing
  case setUsb p on => exact (h.setUsb (hset p on rfl) on).doing
  case wrPon | wru8 | wru16 | wru32 => exact (h.wruN _ _ (by simpa [Instr.wf, fitsBytes] using hwf)).doing
  case wrStandby | requestStandby => exact (h.requestStandby (by simpa [Instr.wf, fitsBytes] using hwf)).doing
  case wrDfuStart => exact (h.dfuStart (by simpa [Instr.wf, imageSizeLegal] using hwf)).doing
  case wrDfuBlock => exact (h.dfuBlock (by simpa [Instr.wf] using hwf)).doing
  all_goals simp [isPureRead, writeTarget] at hi

end Denied

/-! Waiting at `Lock()`. -/

section Waiting

variable {α : Type} {s : State} {a : Agent}

/-- `x` waits at `Lock()` with `k` after it reached `t`. -/
def Waits (s t : State) (k : Hold) (x : Op α) : Prop := x s = .error .wait (t.park t.cur k)

theorem Waits.bind {β : Type} {t : State} {k : Hold} {x : Op α} (h : Waits s t k x) (f : α → Op β) : Waits s t k (x >>= f) :=
  Op.bind_error h

theorem Waits.finish {t : State} {k : Hold} {x : Op Result} (h : Waits s t k x) :
    Machine.finish x s = .next (t.park t.cur k) := finish_wait h

theorem waits_underLock (hs : s.holder = some a) (ha : a ≠ s.cur) (k : Hold) (x : Op α) : Waits s s k (underLock k x) :=
  Op.bind_error (acquire_held k hs ha)

theorem reentrant_underLock (hs : s.holder = some s.cur) (k : Hold) (x : Op α) :
    underLock k x s = .error (.stop .reentrantLock) s := Op.bind_error (acquire_reentrant k hs)

/-- A request that needs the bus goes past its checks. -/
theorem orImmediate_none {i : Instr} {x : Op Reply} (h : immediateReply s.cfg i = none) : orImmediate i x s = x s := by
  unfold orImmediate
  rw [Op.bind_ok (Op.get_run s), h]

theorem portLegal_natCast {p : Nat} (hp : p ≤ 3) : portLegal (p : Int) = true := by
  simp only [portLegal, Bool.and_eq_true, decide_eq_true_eq]
  omega

theorem clampDelay_eq (v : Int) : clampDelay v = min v.toNat (2 ^ 32 - 1) := by
  unfold clampDelay standbyMax
  omega

theorem exec_reentrant {p : Nat} {on : Bool} (hp : p ≤ 3) {i : Instr}
    (hi : i ∈ [Instr.cSnapshot, .cShutdown, .cGetUsb p, .cSetUsb p on]) (hs : s.holder = some s.cur) :
    exec i s = .fault .reentrantLock := by
  have hport := portLegal_natCast hp
  have stops {x : Op Reply} (hx : x s = .error (.stop .reentrantLock) s) : finish (replying x) s = .fault .reentrantLock :=
    finish_stop (Op.bind_error hx)
  have locked {α : Type} (k : Hold) (x : Op α) (f : Except Err α → Op Reply) :
      (underLock k x >>= f) s = .error (.stop .reentrantLock) s := Op.bind_error (reentrant_underLock hs k x)
  simp only [List.mem_cons, List.not_mem_nil, or_false] at hi
  obtain rfl | rfl | rfl | rfl := hi
  · exact stops (locked _ _ _)
  · exact stops (locked _ _ _)
  · exact stops ((orImmediate_none (by simp [immediateReply, hport])).trans (locked _ _ _))
  · exact stops ((orImmediate_none (by simp [immediateReply, hport])).trans (locked _ _ _))

section Held

variable (hs : s.holder = some a) (ha : a ≠ s.cur)

include hs ha

theorem waits_underLock_bind {β : Type} (k : Hold) (x : Op α) (f : Except Err α → Op β) :
    Waits s s k (underLock k x >>= f) := (waits_underLock hs ha k x).bind f

theorem exec_cGetUsb_held {p : Int} (hp : portLegal p = true) : exec (.cGetUsb p) s = .next (s.park s.cur (.getUsb p)) :=
  Waits.finish (Op.bind_error ((orImmediate_none (by simp [immediateReply, hp])).trans (waits_underLock_bind hs ha _ _ _)))

theorem exec_cSetUsb_held {p : Int} (hp : portLegal p = true) (on : Bool) :
    exec (.cSetUsb p on) s = .next (s.park s.cur (.setUsb p on)) :=
  Waits.finish (Op.bind_error ((orImmediate_none (by simp [immediateReply, hp])).trans (waits_underLock_bind hs ha _ _ _)))

theorem exec_cStandby_delay_held {d : Int} (hd : 0 ≤ d) :
    exec (.cStandby (.delay d)) s = .next (s.park s.cur (.standby (min d.toNat (2 ^ 32 - 1)))) := by
  rw [← clampDelay_eq]
  exact Waits.finish (Op.bind_error
    ((orImmediate_none (by simp [immediateReply, hd])).trans (waits_underLock_bind hs ha _ _ _)))

/-- The wall clock is read before the wait (45_control R468). -/
theorem exec_cStandby_datetime_held {wake wall : Rat} {walls : List Rat} (hw : s.inp.wall = wall :: walls) :
    exec (.cStandby (.datetime wake)) s = .next ({ s with inp := { s.inp with wall := walls } }.park s.cur
      (.standby (min (wake - wall).floor.toNat (2 ^ 32 - 1)))) := by
  have hpop : popWall s = .ok wall { s with inp := { s.inp with wall := walls } } := by simp [popWall, hw]
  have hwait := waits_underLock_bind (s := { s with inp := { s.inp with wall := walls } }) hs ha
    (.standby (datetimeDelay wake wall)) (requestStandby (datetimeDelay wake wall))
    (fun r => return replyOf (fun _ => .unit) r)
  rw [← clampDelay_eq]
  exact Waits.finish (t := { s with inp := { s.inp with wall := walls } }) (Op.bind_error
    ((orImmediate_none rfl).trans ((Op.bind_ok hpop).trans hwait)))

/-- An upload waits with its engine at Validate (44_dfu_engine R381, log 42). -/
theorem waits_dfuUpload (k : Hold) {image : List Byte} (hi : imageSizeLegal image.length = true) :
    Waits s (s.dfuAt s.cur .validate) k (dfuUpload k image) := by
  unfold dfuUpload Waits
  rw [Op.bind_ok (setDfu_run _ s), if_pos hi]
  exact Op.bind_error (acquire_held (s := s.dfuAt s.cur .validate) k hs ha)

theorem exec_cUpload_held {image : List Byte} (hi : imageSizeLegal image.length = true) :
    exec (.cUpload image) s = .next ((s.dfuAt s.cur .validate).park s.cur (.uploadRequest image)) :=
  Waits.finish (t := s.dfuAt s.cur .validate)
    (Op.bind_error (Op.bind_error (attempt_error (waits_dfuUpload hs ha _ hi) nofun)))

theorem exitSeq_held (code : Fin 3) :
    exitSeq code s = .error .wait ({ s with pcSup := .exiting }.park s.cur (.exit code)) := by
  unfold exitSeq
  rw [Op.bind_ok (setSup_run _ s)]
  exact Op.bind_error (acquire_held (s := { s with pcSup := .exiting }) _ hs ha)

/-- A tick waits with the limits it read (45_control R461, log 12). -/
theorem exec_tick_held (hsig : s.sigCancel = false) (hdead : s.fsm ≠ .dead) : exec .tick s =
    .next ({ s with supWake := none, pcSup := .waitLock }.park s.cur (.tick s.cfg.vlim s.cfg.tlim)) := by
  have hbegin : s.beginTick = { s with supWake := none, pcSup := .waitLock } := by simp [State.beginTick, hsig, hdead]
  have hwait : acquire (.tick s.cfg.vlim s.cfg.tlim) s.beginTick =
      .error .wait (s.beginTick.park s.cur (.tick s.cfg.vlim s.cfg.tlim)) := acquire_held (s := s.beginTick) _ hs ha
  have htick : tick s = .error .wait (s.beginTick.park s.cur (.tick s.cfg.vlim s.cfg.tlim)) := by
    unfold tick
    rw [Op.bind_ok (Op.get_run s), Op.bind_ok (Op.modify_run _ s), if_neg (by simp [hsig]), if_neg hdead]
    exact Op.bind_error hwait
  rw [← hbegin]
  exact doing_wait htick

end Held

/-- Settles O22: the guard of a transaction and the three ends of `Lock()` decide every case. -/
theorem lockRules : Obligations.LockRules := by
  unfold Obligations.LockRules
  refine ⟨fun i s hwf hi hget hset hd ho hh => exec_denied hwf hi hget hset hd ⟨ho, hh⟩, fun s p on hp =>
    ⟨fun i hi hs => exec_reentrant hp hi hs, fun a hs ha => ?_⟩⟩
  have hport := portLegal_natCast hp
  refine ⟨?snapshot, ?shutdown, exec_cGetUsb_held hs ha hport, exec_cSetUsb_held hs ha hport on,
    fun d hd => exec_cStandby_delay_held hs ha hd, fun wake wall walls hw => exec_cStandby_datetime_held hs ha hw,
    fun image hmin hmax => ?uploads, fun code => ?exit, exec_tick_held hs ha⟩
  case snapshot => exact Waits.finish (Op.bind_error (waits_underLock_bind hs ha _ _ _))
  case shutdown => exact Waits.finish (Op.bind_error (waits_underLock_bind hs ha _ _ _))
  case uploads =>
    have hi := (imageSizeLegal_iff _).mpr ⟨hmin, hmax⟩
    exact ⟨doing_wait (waits_dfuUpload hs ha _ hi), exec_cUpload_held hs ha hi⟩
  case exit => exact doing_wait (exitSeq_held hs ha _)

end Waiting

end Sys2Proof.Machine
end

section
/-! PROOFS. Big-endian numbers (00_scope R5), two's complement and the power-state byte: what is written reads back. -/

namespace Sys2Proof.Machine

@[simp] theorem beN_length (k v : Nat) : (beN k v).length = k := by
  induction k with
  | zero => rfl
  | succ k ih => simp [beN, ih]

theorem decBeFrom_beN (acc k v : Nat) : decBeFrom acc (beN k v) = acc * 256 ^ k + v % 256 ^ k := by
  induction k generalizing acc with
  | zero => simp [beN, decBeFrom, Nat.mod_one]
  | succ k ih =>
    rw [beN, decBeFrom, ih, Nat.mod_pow_succ, BitVec.toNat_ofNat]
    ring

theorem decBe_beN {k v : Nat} (h : v < 256 ^ k) : decBe (beN k v) = v := by
  rw [decBe, decBeFrom_beN, Nat.mod_eq_of_lt h, Nat.zero_mul, Nat.zero_add]

theorem decBeFrom_div (acc : Nat) (bs : List Byte) : decBeFrom acc bs / 256 ^ bs.length = acc := by
  induction bs generalizing acc with
  | nil => simp [decBeFrom]
  | cons b bs ih =>
    have hb := b.isLt
    rw [decBeFrom, List.length_cons, pow_succ, ← Nat.div_div_eq_div_mul, ih]
    omega

theorem beN_decBeFrom (acc : Nat) (bs : List Byte) : beN bs.length (decBeFrom acc bs) = bs := by
  induction bs generalizing acc with
  | nil => rfl
  | cons b bs ih =>
    have hb := b.isLt
    have hhead : BitVec.ofNat 8 (acc * 256 + b.toNat) = b := by
      apply BitVec.eq_of_toNat_eq
      rw [BitVec.toNat_ofNat]
      omega
    rw [List.length_cons, beN, decBeFrom, decBeFrom_div, ih, hhead]

theorem be16_of_bytes (a b : Byte) : be16 (a.toNat * 256 + b.toNat) = [a, b] := by
  simpa [decBeFrom, be16] using beN_decBeFrom 0 [a, b]

theorem be32_of_bytes (a b c e : Byte) :
    be32 (a.toNat * 2 ^ 24 + b.toNat * 2 ^ 16 + c.toNat * 2 ^ 8 + e.toNat) = [a, b, c, e] := by
  have hvalue : a.toNat * 2 ^ 24 + b.toNat * 2 ^ 16 + c.toNat * 2 ^ 8 + e.toNat = decBeFrom 0 [a, b, c, e] := by
    simp only [decBeFrom]
    omega
  rw [hvalue]
  exact beN_decBeFrom 0 [a, b, c, e]

theorem twos64_lt (i : Int) : twos64 i < 256 ^ 8 := (BitVec.ofInt 64 i).isLt

theorem ofTwos64_twos64 {i : Int} (h : fitsInt64 i = true) : ofTwos64 (twos64 i) = i := by
  simp only [fitsInt64, Bool.and_eq_true, decide_eq_true_eq] at h
  rw [ofTwos64, twos64, BitVec.ofNat_toNat, BitVec.setWidth_eq, BitVec.toInt_ofInt]
  exact Int.bmod_eq_of_le (by omega) (by omega)

theorem decodePs_unnamed {b : Byte} (hmin : 4 ≤ b.toNat) (hmax : b.toNat ≤ 12) : decodePs b = .unnamed b := by
  unfold decodePs
  rw [if_neg (by omega), if_neg (by omega), if_neg (by omega), if_neg (by omega), if_pos hmax]

theorem decodePs_unknown {b : Byte} (h : 14 ≤ b.toNat) : decodePs b = .unknown b := by
  unfold decodePs
  rw [if_neg (by omega), if_neg (by omega), if_neg (by omega), if_neg (by omega), if_neg (by omega), if_neg (by omega)]

theorem decodePs_psByte {p : PowerState} (h : p.wf = true) : decodePs (psByte p) = p := by
  cases p with
  | off | poweringOn | operational | operationalCoOp | standby => rfl
  | unnamed code =>
    simp only [PowerState.wf, Bool.and_eq_true, decide_eq_true_eq] at h
    exact decodePs_unnamed h.1 h.2
  | unknown value => exact decodePs_unknown (of_decide_eq_true h)

end Sys2Proof.Machine
end

section
/-! PROOFS. What each operand reader of the decoder makes of the bytes the encoder puts for its operand (log 5). -/

namespace Sys2Proof

section Readers

variable {α β : Type}

/-- `x` reads the bytes `bs` as `a`, whatever stands behind them, and leaves that. -/
def Reads (x : Dec α) (bs : List Byte) (a : α) : Prop := ∀ rest, x (bs ++ rest) = .ok a rest

theorem reads_pure (a : α) : Reads (pure a) [] a := fun _ => rfl

theorem Reads.bind {x : Dec α} {f : α → Dec β} {bs cs : List Byte} {a : α} {b : β} (hx : Reads x bs a)
    (hf : Reads (f a) cs b) : Reads (x >>= f) (bs ++ cs) b := fun rest => by
  simp [Bind.bind, EStateM.bind, hx (cs ++ rest), hf rest]

/-- A last operand, after which nothing more is read. -/
theorem Reads.last {x : Dec α} {f : α → Dec β} {bs : List Byte} {a : α} {b : β} (hx : Reads x bs a)
    (hf : Reads (f a) [] b) : Reads (x >>= f) bs b := by
  simpa using hx.bind hf

theorem Reads.map {x : Dec α} {bs : List Byte} {a : α} (hx : Reads x bs a) (g : α → β) :
    Reads (x >>= fun a => pure (g a)) bs (g a) := hx.last (reads_pure (g a))

/-- The first byte is read, then the rest. -/
theorem Reads.byte {f : Byte → Dec β} {b : Byte} {cs : List Byte} {a : β} (h : Reads (f b) cs a) :
    Reads (takeByte >>= f) (b :: cs) a := h

theorem reads_takeN {n : Nat} {bs : List Byte} (h : bs.length = n) : Reads (takeN n) bs bs := fun rest => by
  simp [takeN, ← h]

end Readers

/-! Numbers, byte strings and Booleans. -/

theorem reads_takeBe {k v : Nat} (h : v < 256 ^ k) : Reads (takeBe k) (Machine.beN k v) v := by
  have hbytes := (reads_takeN (Machine.beN_length k v)).map Machine.decBe
  rwa [Machine.decBe_beN h] at hbytes

theorem reads_takeBe_of_fits {k v : Nat} (h : fitsBytes k v = true) : Reads (takeBe k) (Machine.beN k v) v :=
  reads_takeBe (of_decide_eq_true h)

theorem reads_takeString {s : List Byte} (h : fitsString s = true) : Reads takeString (putString s) s :=
  (reads_takeBe_of_fits h).bind (reads_takeN rfl)

theorem reads_takeString1 {s : List Byte} (hmin : 1 ≤ s.length) (hmax : s.length ≤ 2 ^ 32) :
    Reads takeString1 (putString1 s) s :=
  (reads_takeBe (by omega)).bind (reads_takeN (by omega))

theorem reads_takeBool (e : Bool) : Reads takeBool (putBool e) e := by
  cases e <;> exact fun _ => rfl

theorem reads_takeInt {i : Int} (h : fitsInt64 i = true) : Reads takeInt (putInt i) i := by
  have hi := (reads_takeBe (Machine.twos64_lt i)).map Machine.ofTwos64
  rwa [Machine.ofTwos64_twos64 h] at hi

theorem reads_takeRat {q : Rat} (h : fitsRat q = true) : Reads takeRat (putRat q) q := by
  simp only [fitsRat, Bool.and_eq_true, decide_eq_true_eq] at h
  obtain ⟨hnum, hden⟩ := h
  have hpos := q.den_pos
  have hrat : mkRat q.num (q.den - 1 + 1) = q := by rw [Nat.sub_add_cancel hpos, Rat.mkRat_self]
  exact (reads_takeInt hnum).bind ((reads_takeBe (by omega)).last (by rw [hrat]; exact reads_pure q))

theorem reads_takeHalf (v : Half) : Reads takeHalf (putHalf v) v := by
  have hv := (reads_takeBe (k := 2) v.isLt).map (BitVec.ofNat 16)
  rwa [BitVec.ofNat_toNat, BitVec.setWidth_eq] at hv

/-! Tagged operands. -/

theorem reads_takeErrno {e : Errno} (h : e.wf = true) : Reads takeErrno (putErrno e) e := by
  cases e with
  | enxio | enodev => exact fun _ => rfl
  | other n => exact Reads.byte ((reads_takeBe_of_fits h).map _)

theorem reads_takeFailure {f : Failure} (h : f.wf = true) : Reads takeFailure (putFailure f) f := by
  cases f with
  | device e => exact Reads.byte ((reads_takeErrno h).map _)
  | shortRead expected got =>
    obtain ⟨hexpected, hgot⟩ := (Bool.and_eq_true _ _).mp h
    exact Reads.byte ((reads_takeBe_of_fits hexpected).bind ((reads_takeBe_of_fits hgot).map _))
  | shortWrite => exact fun _ => rfl

theorem reads_takeSnapshot {s : Snapshot} (h : s.pstate.wf = true) :
    Reads takeSnapshot (putHalf s.vin ++ putHalf s.vscap ++ putHalf s.iin ++ putHalf s.tmcu ++ putHalf s.tpcb ++
      [Machine.psByte s.pstate]) s := by
  simp only [List.append_assoc]
  exact (reads_takeHalf _).bind ((reads_takeHalf _).bind ((reads_takeHalf _).bind ((reads_takeHalf _).bind
    ((reads_takeHalf _).bind (Reads.byte (by rw [Machine.decodePs_psByte h]; exact reads_pure s))))))

theorem reads_takeSample {r : Sample} (h : r.wf = true) : Reads takeSample (putSample r) r := by
  cases r with
  | ok s => exact Reads.byte ((reads_takeSnapshot h).map _)
  | err e =>
    cases e with
    | single f | retry f => exact Reads.byte ((reads_takeFailure h).map _)

theorem reads_takeKey {key : Option Text} (h : ∀ k, key = some k → fitsString k = true) :
    Reads takeKey (putKey key) key := by
  cases key with
  | none => exact fun _ => rfl
  | some k => exact Reads.byte ((reads_takeString (h k rfl)).map _)

theorem reads_takeCfgValue {v : CfgValue} (h : v.wf = true) : Reads takeCfgValue (putCfgValue v) v := by
  cases v with
  | int v => exact Reads.byte ((reads_takeInt h).map _)
  | rat v => exact Reads.byte ((reads_takeRat h).map _)
  | text v => exact Reads.byte ((reads_takeString h).map _)

theorem reads_takeStandby {a : StandbyArg} (h : a.wf = true) : Reads takeStandby (putStandby a) a := by
  cases a with
  | delay d => exact Reads.byte ((reads_takeInt h).map _)
  | datetime w => exact Reads.byte ((reads_takeRat h).map _)
  | other t => exact Reads.byte ((reads_takeString h).map _)

/-! Frames. -/

theorem frameInRange_iff {i : Nat} {d : List Byte} :
    Machine.frameInRange i d = true ↔ i ≤ 65534 ∧ 1 ≤ d.length ∧ d.length ≤ 4096 := by
  simp only [Machine.frameInRange, Bool.and_eq_true, decide_eq_true_eq, and_assoc]
  rfl

/-- Index, length and data behind the CRC, which the decoder computes again (43_dfu_framer R352). -/
theorem reads_takeFrame {i : Nat} {d : List Byte} (h : Machine.frameInRange i d = true) :
    Reads takeFrame (Machine.frameBytes i d) (.wrDfuBlock i d) := by
  obtain ⟨hi, -, hd⟩ := frameInRange_iff.mp h
  unfold Machine.frameBytes
  refine (reads_takeN (Machine.beN_length 4 _)).bind ?_
  rw [Machine.frameBody, List.append_assoc]
  refine (reads_takeBe (by omega)).bind ((reads_takeBe (by omega)).bind ((reads_takeN rfl).last ?_))
  rw [if_pos ⟨h, rfl⟩]
  exact reads_pure _

end Sys2Proof
end

section
/-! PROOFS. Words: the nine written out (O1), and every well-formed operation decoded from its own word (O2). -/

namespace Sys2Proof

/-- The word `w` holds the operation `i`, and nothing behind it is read. -/
def OpWord.Holds (w : OpWord) (i : Instr) : Prop := ∀ rest, decodeWord { w with bytes := w.bytes ++ rest } = .ok i rest

/-- Zero bytes may fill the slot behind a word (log 5). -/
theorem OpWord.Holds.decode {w : OpWord} {i : Instr} (h : w.Holds i) (k : Nat) :
    decode ⟨w.fmt, w.bytes ++ List.replicate k 0⟩ = .ok i := by
  unfold Sys2Proof.decode
  rw [h (List.replicate k 0)]
  simp

theorem holds_codeWord {c : Byte} {operands : List Byte} {i : Instr} (h : Reads decodeCode (c :: operands) i) :
    (codeWord c operands).Holds i := h

theorem holds_busRead {r : Byte} {i : Instr} (h : Reads (decodeRead r) [] i) : (busRead r).Holds i := h

theorem holds_busWrite {r : Byte} {data : List Byte} {i : Instr} (h : Reads (decodeWrite r) data i) :
    (busWrite r data).Holds i := h

theorem exitCode_of_flag (code : Fin 2) : (if (code == 1) = true then 1 else 0) = code := by
  revert code
  decide

/-- Every well-formed operation stands in its own word. -/
theorem holds_encode {i : Instr} (h : i.wf = true) : (encode i).Holds i := by
  cases i
  -- reads of a named register: the descriptor alone (30_encoding R101, R110)
  case rdHwver | rdFwver | rdDevid | rdWdt | rdPon | rdVin | rdVscap | rdIin | rdTmcu | rdTpcb | rdPstate | rdUsb0 | rdUsb1 |
      rdUsb2 | rdUsb3 | rdDfuStatus | rdDfuBw =>
    exact holds_busRead (reads_pure _)
  -- writes of a named register whose data do not vary
  case wrShutdown | wrDfuCommit | wrDfuAbort => exact holds_busWrite (reads_pure _)
  case wdArm | wdDisable => exact holds_busWrite fun _ => rfl
  -- writes of a named register with an operand
  case wrUsb0 e | wrUsb1 e | wrUsb2 e | wrUsb3 e => exact holds_busWrite ((reads_takeBool e).map _)
  case wrPon | wrStandby => exact holds_busWrite ((reads_takeBe_of_fits h).map _)
  case wrDfuStart n =>
    have hsize := (Machine.imageSizeLegal_iff n).mp h
    exact holds_busWrite ((reads_takeBe (by omega)).map _)
  case wrDfuBlock => exact holds_busWrite (reads_takeFrame h)
  -- codes without operands (30_encoding R130, R133)
  case wdFeed | readMeasurements | requestShutdown | tick | shutdownSeq | startup | dfuCommitSeq | dfuAbortSeq | cSnapshot |
      cShutdown =>
    exact holds_codeWord (Reads.byte (reads_pure _))
  -- codes with a register
  case rdu8 | rdu16 | rdu32 | rdword => exact holds_codeWord (Reads.byte (Reads.byte (reads_pure _)))
  case wru8 | wru16 | wru32 => exact holds_codeWord (Reads.byte (Reads.byte ((reads_takeBe_of_fits h).map _)))
  case rdreg r n =>
    simp only [Instr.wf, Bool.and_eq_true, decide_eq_true_eq] at h
    refine holds_codeWord (Reads.byte (Reads.byte ((reads_takeBe (by omega)).last ?_)))
    rw [Nat.sub_add_cancel h.1]
    exact reads_pure _
  case wrreg r data =>
    simp only [Instr.wf, Bool.and_eq_true, decide_eq_true_eq] at h
    exact holds_codeWord (Reads.byte (Reads.byte ((reads_takeString1 h.1 h.2).map _)))
  -- codes with a number, a Boolean or a byte string
  case requestStandby | dfuPrewait | dfuSend | dfuDrain => exact holds_codeWord (Reads.byte ((reads_takeBe_of_fits h).map _))
  case getUsb | cGetUsb => exact holds_codeWord (Reads.byte ((reads_takeInt h).map _))
  case setUsb p e | cSetUsb p e => exact holds_codeWord (Reads.byte ((reads_takeInt h).bind ((reads_takeBool e).map _)))
  case exitSeq code =>
    refine holds_codeWord (Reads.byte ((reads_takeBool _).last ?_))
    rw [exitCode_of_flag]
    exact reads_pure _
  case crc32 | dfuUpload | cUpload => exact holds_codeWord (Reads.byte ((reads_takeString h).map _))
  case partition image =>
    have hsize := (Machine.imageSizeLegal_iff _).mp h
    exact holds_codeWord (Reads.byte ((reads_takeString1 hsize.1 (by omega)).map _))
  case frame i d =>
    obtain ⟨hi, hmin, hmax⟩ := frameInRange_iff.mp h
    refine holds_codeWord (Reads.byte ?_)
    rw [List.append_assoc]
    exact (reads_takeBe (by omega)).bind ((reads_takeBe (by omega)).bind ((reads_takeN (by omega)).map _))
  -- codes with a tagged operand
  case fsmStep r now =>
    obtain ⟨hr, hnow⟩ := (Bool.and_eq_true _ _).mp h
    exact holds_codeWord (Reads.byte ((reads_takeSample hr).bind ((reads_takeBe_of_fits hnow).map _)))
  case cGetConfig key =>
    exact holds_codeWord (Reads.byte ((reads_takeKey (by rintro k rfl; exact h)).map _))
  case cSetConfig key value =>
    obtain ⟨hkey, hvalue⟩ := (Bool.and_eq_true _ _).mp h
    exact holds_codeWord (Reads.byte ((reads_takeString hkey).bind ((reads_takeCfgValue hvalue).map _)))
  case cStandby => exact holds_codeWord (Reads.byte ((reads_takeStandby h).map _))

/-- Settles O2: each operand reader takes back the bytes its writer put, and the zero bytes behind them are left. -/
theorem encodeDecode : Obligations.EncodeDecode := fun _ k h => (holds_encode h).decode k

theorem decode_encode {i : Instr} (h : i.wf = true) : decode (encode i) = .ok i := by
  simpa using (holds_encode h).decode 0

/-- Settles O1: all but the last word are their operations' own, and no row has code 0x09. -/
theorem decodeWords : Obligations.DecodeWords :=
  ⟨decode_encode (i := .rdDfuStatus) rfl, decode_encode (i := .wdArm) rfl, decode_encode (i := .wdDisable) rfl,
    decode_encode (i := .wrUsb2 true) rfl, decode_encode (i := .rdreg 0x41 1) rfl, decode_encode (i := .tick) rfl,
    decode_encode (i := .dfuPrewait 2) rfl, decode_encode (i := .cShutdown) rfl, rfl⟩

end Sys2Proof
end

section
/-! PROOFS. A step with a word on the operation port (O3). -/

namespace Sys2Proof.Machine

section Port

variable {s : State} {w : OpWord} {rest : List OpWord} (hrun : s.pcSup ≠ .exited) (hport : s.opPort = w :: rest)

include hrun hport

theorem step_of_decode_ok {i : Instr} (hw : decode w = .ok i) : step s = issue i { s with opPort := rest } := by
  unfold step
  rw [if_neg hrun, hport]
  simp only [hw]

theorem step_of_decode_error {e : DecodeError} (hw : decode w = .error e) : step s = .refused .undecodable := by
  unfold step
  rw [if_neg hrun, hport]
  simp only [hw]

end Port

/-- An operation of the port: in a hold of its own where it needs its caller's and the lock is free. -/
theorem issue_eq (i : Instr) (s : State) :
    issue i s =
      if callerHolds i = true ∧ s.holder = none then
        match exec i s.takeLock with
        | .next t => .next (if t.holder = some t.cur then t.dropLock else t)
        | .fault f => .fault f
        | .refused r => .refused r
      else exec i s := by
  unfold issue execHeld
  by_cases hi : callerHolds i = true
  · cases hs : s.holder with
    | none => simp only [hi]; rfl
    | some a => simp [hi]
  · simp [hi]

/-- Settles O3: the port's word decodes or not, and `issue_eq` says what an operation from the port does. -/
theorem stepRunsOperation : Obligations.StepRunsOperation := by
  unfold Obligations.StepRunsOperation
  intro s w rest hrun hport
  exact ⟨fun i hw => (step_of_decode_ok hrun hport hw).trans (issue_eq i _), fun e hw => step_of_decode_error hrun hport hw⟩

end Sys2Proof.Machine
end

section
/-! PROOFS. The named writes whose first attempt succeeds (O17). -/

namespace Sys2Proof.Machine

section Writes

variable {s : State} {d : BusDraw} {r : Byte}

theorem wruN_writes {k v : Nat} (hv : v < 256 ^ k) (h : s.writes d r (beN k v)) :
    wruN k r v s = .ok () (s.didWrite d r (beN k v)) := by
  unfold wruN
  rw [if_pos hv]
  exact wrreg_writes h

theorem usbReg_natCast (p : Nat) : usbReg (p : Int) = BitVec.ofNat 8 (0x26 + p) := rfl

theorem setUsb_writes {p : Nat} {on : Bool} (hp : p ≤ 3) (h : s.writes d (BitVec.ofNat 8 (0x26 + p)) [if on then 1 else 0]) :
    setUsb p on s = .ok () (s.didWrite d (BitVec.ofNat 8 (0x26 + p)) [if on then 1 else 0]) := by
  unfold setUsb
  rw [if_pos (portLegal_natCast hp), usbReg_natCast]
  cases on <;> exact wruN_writes (k := 1) (by decide) h

theorem requestStandby_writes {seconds : Nat} (hs : seconds < 256 ^ 4)
    (h : s.writes d 0x31 (s.par.standbyMode :: be32 seconds)) :
    requestStandby seconds s = .ok () (s.didWrite d 0x31 (s.par.standbyMode :: be32 seconds)) := by
  unfold requestStandby
  rw [Op.bind_ok (Op.get_run s), if_pos hs]
  exact wrreg_writes h

/-- The fixed data of 30_encoding R110 are the big-endian bytes of the value that the operation writes. -/
theorem exec_fixedWrite : ∀ c ∈ fixedWrites, s.writes d c.2.1 c.2.2 →
    exec c.1 s = .next ((s.didWrite d c.2.1 c.2.2).gives .unit) := by
  have watchdog {v : Nat} (hv : v < 256 ^ 2) (h : s.writes d 0x10 (be16 v)) :
      finish (doing (wru16 0x10 v)) s = .next ((s.didWrite d 0x10 (be16 v)).gives .unit) := doing_ok (wruN_writes hv h)
  have rail (p : Nat) (on : Bool) (hp : p ≤ 3) (h : s.writes d (BitVec.ofNat 8 (0x26 + p)) [if on then 1 else 0]) :
      finish (doing (setUsb p on)) s =
        .next ((s.didWrite d (BitVec.ofNat 8 (0x26 + p)) [if on then 1 else 0]).gives .unit) :=
    doing_ok (setUsb_writes hp h)
  have byte (r : Byte) {v : Nat} (hv : v < 256 ^ 1) (h : s.writes d r (beN 1 v)) :
      finish (doing (wru8 r v)) s = .next ((s.didWrite d r (beN 1 v)).gives .unit) := doing_ok (wruN_writes hv h)
  simp only [fixedWrites, List.forall_mem_cons]
  exact ⟨watchdog (v := wdTimeoutCs) (by decide), watchdog (v := wdTimeoutCs) (by decide), watchdog (v := 0) (by decide),
    rail 0 false (by decide), rail 0 true (by decide), rail 1 false (by decide), rail 1 true (by decide),
    rail 2 false (by decide), rail 2 true (by decide), rail 3 false (by decide), rail 3 true (by decide),
    byte 0x30 (v := 1) (by decide), byte 0x30 (v := 1) (by decide), byte 0x44 (v := 0) (by decide),
    byte 0x45 (v := 0) (by decide), List.forall_mem_nil _⟩

/-- Settles O17: every named write is one raw write of its value's big-endian bytes. -/
theorem namedWrites : Obligations.NamedWrites := by
  unfold Obligations.NamedWrites
  intro s d
  refine ⟨exec_fixedWrite, fun a b h => ?pon, fun p on r hp hr h => ?usb, fun a b c e h i hi => ?standby⟩
  case pon =>
    have ha := a.isLt
    have hb := b.isLt
    rw [← be16_of_bytes] at h ⊢
    exact doing_ok (wruN_writes (by omega) h)
  case usb =>
    subst hr
    exact doing_ok (setUsb_writes hp h)
  case standby =>
    have hseconds : a.toNat * 2 ^ 24 + b.toNat * 2 ^ 16 + c.toNat * 2 ^ 8 + e.toNat < 256 ^ 4 := by
      have ha := a.isLt
      have hb := b.isLt
      have hc := c.isLt
      have he := e.isLt
      omega
    rw [← be32_of_bytes] at h ⊢
    have hwrites := doing_ok (requestStandby_writes hseconds h)
    simp only [List.mem_cons, List.not_mem_nil, or_false] at hi
    obtain rfl | rfl := hi <;> exact hwrites

end Writes

end Sys2Proof.Machine
end

section
/-! PROOFS. The retry policy followed attempt by attempt (O9), and the raw and typed transactions whose first attempt succeeds
(O5, O8). -/

namespace Sys2Proof.Machine

section Retries

variable {α : Type} {t : Op (Except Failure α)} {s u w : State} {used : Nat} {f : Failure}

/-- From `s` the transaction `t` has used `used` of its retries when it comes to the attempt that begins in `u`. -/
def ReachesAttempt (t : Op (Except Failure α)) (s u : State) (used : Nat) : Prop :=
  ∀ k, retryLoop t (used + k) s = retryLoop t k u

/-- A transient failure and its backoff use one retry (40_transport R203). -/
theorem ReachesAttempt.again {p : Susp} (h : ReachesAttempt t (w.didSleep p retryBackoffMs) u used)
    (ht : t s = .ok (.error f) w) (hf : failureFatal f = false) (hp : w.rests p retryBackoffMs) : ReachesAttempt t s u (used + 1) := by
  intro k
  rw [Nat.add_right_comm, retryLoop_again ht hf, Op.bind_ok (sleep_rests hp)]
  exact h k

/-- With at most `RETRY_MAX` retries used the transaction is the rest of its loop. -/
theorem ReachesAttempt.attempt4_eq (h : ReachesAttempt t s u used) (hu : used ≤ retryMax) :
    attempt4 t s = retryLoop t (retryMax - used) u := by
  rw [← h, Nat.add_sub_of_le hu]
  rfl

theorem ReachesAttempt.ok {v : α} (h : ReachesAttempt t s u used) (hu : used ≤ retryMax) (ht : t u = .ok (.ok v) w) :
    attempt4 t s = .ok v w := by
  rw [h.attempt4_eq hu]
  exact retryLoop_ok ht _

theorem ReachesAttempt.fatal (h : ReachesAttempt t s u used) (hu : used ≤ retryMax) (ht : t u = .ok (.error f) w)
    (hf : failureFatal f = true) : attempt4 t s = .error (.raise (.transport (.single f))) w := by
  rw [h.attempt4_eq hu]
  exact retryLoop_fatal ht hf _

theorem ReachesAttempt.exhausted (h : ReachesAttempt t s u retryMax) (ht : t u = .ok (.error f) w)
    (hf : failureFatal f = false) : attempt4 t s = .error (.raise (.transport (.retry f))) w := by
  rw [h.attempt4_eq le_rfl]
  exact retryLoop_last ht hf

theorem reachesAttempt_reads {r : Byte} {n : Nat} {l : List (BusDraw × Susp)} (h : s.retriesReads r n l) :
    ReachesAttempt (memRead r n) s (s.retriedReads r n l) l.length := by
  induction l generalizing s with
  | nil => exact fun k => by rw [List.length_nil, Nat.zero_add]; rfl
  | cons x rest ih =>
    obtain ⟨d, p⟩ := x
    obtain ⟨ha, ⟨f, hanswer, hf⟩, hp, hrest⟩ := h
    exact (ih hrest).again (by rw [memRead_awaits ha, hanswer]) hf hp

theorem reachesAttempt_writes {r : Byte} {data : List Byte} {l : List (BusDraw × Susp)} (h : s.retriesWrites r data l) :
    ReachesAttempt (memWrite r data) s (s.retriedWrites r data l) l.length := by
  induction l generalizing s with
  | nil => exact fun k => by rw [List.length_nil, Nat.zero_add]; rfl
  | cons x rest ih =>
    obtain ⟨d, p⟩ := x
    obtain ⟨ha, ⟨f, hanswer, hf⟩, hp, hrest⟩ := h
    exact (ih hrest).again (by rw [memWrite_awaits ha, hanswer]) hf hp

end Retries

/-- Settles O9: the failed attempts lead to the next one, which ends the transaction as its answer says. -/
theorem retryFollows : Obligations.RetryFollows := by
  unfold Obligations.RetryFollows
  intro s r l hl
  refine ⟨fun n h => ?reads, fun data h => ?writes⟩
  case reads =>
    have hreach := reachesAttempt_reads h
    refine ⟨fun d bs hd => giving_ok (hreach.ok hl ?_), fun d f hd hanswer => ?_⟩
    · rw [memRead_awaits hd.1, hd.2]
    · have hattempt := memRead_awaits (r := r) (n := n) hd
      rw [hanswer] at hattempt
      exact ⟨fun hf => giving_raise (hreach.fatal hl hattempt hf),
        fun hf hlast => giving_raise ((hlast ▸ hreach).exhausted hattempt hf)⟩
  case writes =>
    have hreach := reachesAttempt_writes h
    refine ⟨fun d hd => doing_ok (hreach.ok hl ?_), fun d f hd hanswer => ?_⟩
    · rw [memWrite_awaits hd.1, hd.2]
    · have hattempt := memWrite_awaits (r := r) (data := data) hd
      rw [hanswer] at hattempt
      exact ⟨fun hf => doing_raise (hreach.fatal hl hattempt hf),
        fun hf hlast => doing_raise ((hlast ▸ hreach).exhausted hattempt hf)⟩

section Firsts

variable {s : State} {d : BusDraw} {r : Byte}

theorem decBe_word (a b : Byte) : decBe [a, b] = a.toNat * 256 + b.toNat := by simp [decBe, decBeFrom]

theorem decBe_long (a b c e : Byte) :
    decBe [a, b, c, e] = a.toNat * 2 ^ 24 + b.toNat * 2 ^ 16 + c.toNat * 2 ^ 8 + e.toNat := by
  simp only [decBe, decBeFrom]
  omega

theorem beN_byte (a : Byte) : beN 1 a.toNat = [a] := by simp [beN]

theorem rdu8_reads {b : Byte} (h : s.reads d r 1 [b]) : rdu8 r s = .ok b (s.didRead d r 1) :=
  Op.bind_ok (rdreg_reads h)

theorem rdword_reads {bs : List Byte} (h : s.reads d r 2 bs) : rdword r s = .ok (decBe bs) (s.didRead d r 2) :=
  Op.bind_ok (rdreg_reads h)

theorem rdu32_reads {bs : List Byte} (h : s.reads d r 4 bs) : rdu32 r s = .ok (decBe bs) (s.didRead d r 4) :=
  Op.bind_ok (rdreg_reads h)

/-- A typed writer's value beyond its width is a fault of the model (40_transport R215). -/
theorem wruN_tooWide {k v : Nat} (hv : 256 ^ k ≤ v) : wruN k r v s = .error (.stop .valueTooWide) s := by
  unfold wruN
  rw [if_neg (Nat.not_lt.mpr hv)]
  rfl

end Firsts

/-- Settles O5: each raw read is one transaction, decoded big-endian. -/
theorem rawReadsComplete : Obligations.RawReadsComplete := by
  unfold Obligations.RawReadsComplete
  intro s d r
  refine ⟨fun n bs h => giving_ok (rdreg_reads h), fun b h => giving_ok (rdu8_reads h), fun a b c e h => ?long,
    fun a b h => ?word⟩
  case long =>
    rw [← decBe_long]
    exact giving_ok (rdu32_reads h)
  case word =>
    rw [← decBe_word]
    exact giving_ok (rdword_reads h)

/-- Settles O8: each typed write within its width is one raw write of its value's big-endian bytes. -/
theorem rawWritesComplete : Obligations.RawWritesComplete := by
  unfold Obligations.RawWritesComplete
  intro s d r
  refine ⟨fun data h => doing_ok (wrreg_writes h), fun a h => ?byte, fun a b h => ?word, fun a b c e h => ?long,
    fun v hv => doing_stop (wruN_tooWide (k := 1) hv), fun v hv => doing_stop (wruN_tooWide (k := 2) hv),
    fun v hv => doing_stop (wruN_tooWide (k := 4) hv)⟩
  case byte =>
    rw [← beN_byte] at h ⊢
    exact doing_ok (wruN_writes a.isLt h)
  case word =>
    have ha := a.isLt
    have hb := b.isLt
    rw [← be16_of_bytes] at h ⊢
    exact doing_ok (wruN_writes (by omega) h)
  case long =>
    have ha := a.isLt
    have hb := b.isLt
    have hc := c.isLt
    have he := e.isLt
    rw [← be32_of_bytes] at h ⊢
    exact doing_ok (wruN_writes (by omega) h)

end Sys2Proof.Machine
end

section
/-! PROOFS. The two-byte reads in both dialects (O6, O7): all of them are RDU16 of their register. -/

namespace Sys2Proof.Machine

section WordReads

variable {s : State} {r : Byte}

/-- Every named two-byte read is RDU16 of its register (40_transport R207). -/
theorem exec_wordRead {i : Instr} (h : i = .rdu16 r ∨ (i, r) ∈ wordReads) :
    exec i s = finish (giving .num (rdu16 r)) s := by
  obtain rfl | h := h
  · rfl
  · simp only [wordReads, List.mem_cons, Prod.mk.injEq, List.not_mem_nil, or_false] at h
    obtain ⟨rfl, rfl⟩ | ⟨rfl, rfl⟩ | ⟨rfl, rfl⟩ | ⟨rfl, rfl⟩ | ⟨rfl, rfl⟩ | ⟨rfl, rfl⟩ | ⟨rfl, rfl⟩ | ⟨rfl, rfl⟩ := h <;>
      rfl

theorem rdu16_dialect2 (h : s.dialect = some .two) : rdu16 r s = rdword r s := by
  unfold rdu16
  rw [Op.bind_ok (Op.get_run s), h]

theorem rdu16_dialect1 (h : s.dialect = some .one) : rdu16 r s = dialect1U16 r s := by
  unfold rdu16
  rw [Op.bind_ok (Op.get_run s), h]

theorem dialect1U16_unfixed (h : s.par.dialect1 = .unfixed) : dialect1U16 r s = unfixedDialect1 r s := by
  unfold dialect1U16
  rw [Op.bind_ok (Op.get_run s), h]

theorem dialect1U16_fixed {rows : List (Byte × Dialect1Read)} {c : Dialect1Read} (h : s.par.dialect1 = .table rows)
    (hc : rows.lookup r = some c) : dialect1U16 r s = fixedDialect1 r c s := by
  unfold dialect1U16
  rw [Op.bind_ok (Op.get_run s), h]
  simp only [hc]

/-! The unfixed read. -/

theorem popDialect1_cons {d : Dialect1Draw} {ds : List Dialect1Draw} (h : s.inp.dialect1 = d :: ds) :
    popDialect1 s = .ok d { s with inp := { s.inp with dialect1 := ds } } := by
  simp [popDialect1, h]

/-- A successful transaction of the trace is traffic at its end (60_exceptions R632). -/
theorem traffic_elapse (s : State) (p : Susp) :
    traffic (s.elapse (s.now + p.dur) p.acts) = .ok () (s.didTraffic p) := by
  unfold traffic
  rw [Op.modify_run]
  simp [State.didTraffic]

/-- An unstated trace through which host power lasts. -/
theorem unstatedTrace_lasts {l : List Susp} (h : s.lasts l) : unstatedTrace l s = .ok () (s.didTrace l) := by
  induction l generalizing s with
  | nil => rfl
  | cons p rest ih =>
    obtain ⟨hc, hw, hrest⟩ := h
    rw [unstatedTrace, Op.bind_ok (suspend_ok hc hw), Op.bind_ok (traffic_elapse s p)]
    exact ih hrest

/-- What is left of an unfixed read once its last transaction has been answered (40_transport R209). -/
def endDialect1 : Dialect1Resp → Op Nat
  | .value v => do
    traffic
    return v.toNat
  | .fail f => raise (.transport (attemptError f))

/-- An unfixed read through which host power lasts comes to its drawn answer (40_transport R209). -/
theorem unfixedDialect1_answered {d : Dialect1Draw} {ds : List Dialect1Draw} {s1 : State} (ho : s.busOpen = true)
    (hh : s.holder = some s.cur) (hd : s.inp.dialect1 = d :: ds)
    (hl : { s with inp := { s.inp with dialect1 := ds } }.lasts d.traffic)
    (h1 : s1 = { s with inp := { s.inp with dialect1 := ds } }.didTrace d.traffic) (hc : d.susp.cut = false)
    (hw : s1.comp.wdog.expired (s1.now + d.susp.dur) = false) :
    unfixedDialect1 r s =
      endDialect1 d.resp ((s1.elapse (s1.now + d.susp.dur) d.susp.acts).emit (.dialect1 r d.resp)) := by
  subst h1
  unfold unfixedDialect1
  rw [Op.bind_ok (guardBus_ok ho hh), Op.bind_ok (popDialect1_cons hd), Op.bind_ok (unstatedTrace_lasts hl),
    Op.bind_ok (suspend_ok hc hw), Op.bind_ok (emit_run _ _)]
  cases d.resp <;> rfl

theorem attemptError_fatal {f : Failure} (h : failureFatal f = true) : attemptError f = .single f := by
  rw [attemptError, if_pos h]

theorem attemptError_transient {f : Failure} (h : failureFatal f = false) : attemptError f = .retry f := by
  rw [attemptError, h]
  rfl

/-! The fixed read. -/

theorem decodeDialect1_byteAt {responses : List (List Byte)} {hi lo : Byte} {rest : List Byte} {k : Nat}
    (h : responses.flatten = hi :: rest) (hk : (hi :: rest)[k]? = some lo) :
    decodeDialect1 r (.byteAt k) responses = some (hi.toNat * 256 + lo.toNat) := by
  simp [decodeDialect1, h, hk]

theorem decodeDialect1_decoded {responses : List (List Byte)} {hi : Byte} {rest : List Byte}
    (h : responses.flatten = hi :: rest) :
    decodeDialect1 r .decoded responses = some (hi.toNat * 256 + (Config.dialect1Low r responses).toNat) := by
  simp [decodeDialect1, h]

theorem fixedDialect1_ok {c : Dialect1Read} {t : State} {responses : List (List Byte)} {v : Nat}
    (h : runDialect1 c.txns s = .ok responses t) (hv : decodeDialect1 r c.low responses = some v) :
    fixedDialect1 r c s = .ok v t := by
  unfold fixedDialect1
  rw [Op.bind_ok h, hv]
  rfl

end WordReads

/-- Settles O6: in dialect 2 RDU16 is the word transaction. -/
theorem wordReadsDialect2 : Obligations.WordReadsDialect2 := by
  unfold Obligations.WordReadsDialect2
  intro s d a b hd
  have word {r : Byte} (h : s.reads d r 2 [a, b]) :
      finish (giving .num (rdu16 r)) s = .next ((s.didRead d r 2).gives (.num (a.toNat * 256 + b.toNat))) := by
    rw [← decBe_word]
    exact giving_ok (by rw [rdu16_dialect2 hd, rdword_reads h])
  exact ⟨fun r h => word h, fun c hc h => by rw [exec_wordRead (.inr hc), word h]⟩

/-- Settles O7: in dialect 1 RDU16 is the open parameter's read, unfixed or fixed. -/
theorem wordReadsDialect1 : Obligations.WordReadsDialect1 := by
  unfold Obligations.WordReadsDialect1
  intro s r i hd hi
  rw [exec_wordRead hi]
  refine ⟨fun hp ho hh d ds s1 hdraw hl h1 hc hw => ⟨_, rfl, ?unfixed⟩, fun rows c hp hrow => ?fixed⟩
  case unfixed =>
    have hrun : rdu16 r s =
        endDialect1 d.resp ((s1.elapse (s1.now + d.susp.dur) d.susp.acts).emit (.dialect1 r d.resp)) := by
      rw [rdu16_dialect1 hd, dialect1U16_unfixed hp, unfixedDialect1_answered ho hh hdraw hl h1 hc hw]
    refine ⟨fun v hv => ?_, fun f hf => ?_⟩
    · rw [hv] at hrun ⊢
      exact giving_ok hrun
    · rw [hf] at hrun ⊢
      exact ⟨fun h => giving_raise (by rw [hrun, endDialect1, attemptError_fatal h]; rfl),
        fun h => giving_raise (by rw [hrun, endDialect1, attemptError_transient h]; rfl)⟩
  case fixed =>
    have hrun : rdu16 r s = fixedDialect1 r c s := by rw [rdu16_dialect1 hd, dialect1U16_fixed hp hrow]
    refine ⟨fun t responses hi rest htxns hbytes => ⟨fun k lo hlow hlo => ?_, fun hlow => ?_⟩, fun t e htxns => ?_⟩
    · exact giving_ok (by rw [hrun, fixedDialect1_ok htxns (by rw [hlow, decodeDialect1_byteAt hbytes hlo])])
    · exact giving_ok (by rw [hrun, fixedDialect1_ok htxns (by rw [hlow, decodeDialect1_decoded hbytes])])
    · exact giving_raise (by rw [hrun]; exact Op.bind_error htxns)

end Sys2Proof.Machine
end

section
/-! PROOFS. What a transaction shows: at most four attempts, 10 ms apart, under one hold (O10), and `Retry` with the fourth
(O11). -/

namespace Sys2Proof.Machine

/-! Events between two states. -/

/-- The events of a list that are transaction attempts. -/
def attemptsOf (es : List (Nat × Event)) : List (Nat × Event) := es.filter fun e => e.2.isAttempt

/-- The lock is neither taken nor released in these events (10_state R30, R31). -/
def KeepLock (es : List (Nat × Event)) : Prop := ∀ e ∈ es, ∀ a, e.2 ≠ .lock a ∧ e.2 ≠ .unlock a

@[simp] theorem attemptsOf_append (es fs : List (Nat × Event)) : attemptsOf (es ++ fs) = attemptsOf es ++ attemptsOf fs :=
  List.filter_append ..

theorem keepLock_nil : KeepLock [] := by simp [KeepLock]

theorem KeepLock.append {es fs : List (Nat × Event)} (h : KeepLock es) (g : KeepLock fs) : KeepLock (es ++ fs) :=
  List.forall_mem_append.mpr ⟨h, g⟩

theorem keepLock_singleton {n : Nat} {e : Event} (h : ∀ a, e ≠ .lock a ∧ e ≠ .unlock a) : KeepLock [(n, e)] :=
  List.forall_mem_singleton.mpr h

/-- From `s` to `u` the trace has grown by the attempts `as`, with the times they ended at, and by events that concern neither
the lock nor an attempt. -/
def State.adds (s u : State) (as : List (Nat × Event)) : Prop :=
  ∃ es, u.trace = s.trace ++ es ∧ attemptsOf es = as ∧ KeepLock es

section Adds

variable {s t u : State} {as bs : List (Nat × Event)}

theorem State.adds_nil (h : u.trace = s.trace) : s.adds u [] := ⟨[], by simp [h], rfl, keepLock_nil⟩

theorem State.adds.trans (h : s.adds t as) (g : t.adds u bs) : s.adds u (as ++ bs) := by
  obtain ⟨es, he, rfl, hes⟩ := h
  obtain ⟨fs, hf, rfl, hfs⟩ := g
  exact ⟨es ++ fs, by rw [hf, he, List.append_assoc], attemptsOf_append .., hes.append hfs⟩

theorem State.adds_event {n : Nat} {e : Event} (h : u.trace = s.trace ++ [(n, e)]) (he : ∀ a, e ≠ .lock a ∧ e ≠ .unlock a) :
    s.adds u (attemptsOf [(n, e)]) := ⟨_, h, rfl, keepLock_singleton he⟩

/-- What lands at a suspension point is no attempt and does not concern the lock (60_exceptions R605). -/
theorem State.lasts_adds (s : State) (as : List (Nat × Event)) : Lasts (s.adds · as) := by
  intro u v hu l
  suffices h : u.adds v [] by simpa using hu.trans h
  cases l with
  | signal k => exact State.adds_event (e := .signal k) rfl (by simp)
  | request w => exact State.adds_event (e := .request u.nextReq w) rfl (by simp)
  | reply a r => exact State.adds_event (e := .reply a r) rfl (by simp)
  | time | answer | wait | tick | nap => exact State.adds_nil rfl

end Adds

/-- From `s` to `u` the attempts `as` are shown, the lock stays as it is, and time goes on. -/
structure State.shows (s u : State) (as : List (Nat × Event)) : Prop where
  trace : s.adds u as
  holder : u.holder = s.holder
  now : s.now ≤ u.now

section Shows

variable {s t u : State} {as bs : List (Nat × Event)}

theorem State.shows_refl (s : State) : s.shows s [] := ⟨State.adds_nil rfl, rfl, le_rfl⟩

theorem State.shows.trans (h : s.shows t as) (g : t.shows u bs) : s.shows u (as ++ bs) :=
  ⟨h.trace.trans g.trace, g.holder.trans h.holder, h.now.trans g.now⟩

theorem State.shows_elapse (s : State) {till : Nat} (h : s.now ≤ till) (l : List Arrival) : s.shows (s.elapse till l) [] :=
  ⟨Lasts.elapse (s.lasts_adds []) (State.adds_nil rfl) till l, by simp, by simpa using h⟩

/-- A draw taken, then a suspension. -/
theorem State.shows_drawn (s : State) (p : Inputs) {till : Nat} (h : s.now ≤ till) (l : List Arrival) :
    s.shows ({ s with inp := p }.elapse till l) [] := by
  have hdraw : s.shows { s with inp := p } [] := ⟨State.adds_nil rfl, rfl, le_rfl⟩
  exact hdraw.trans (State.shows_elapse { s with inp := p } h l)

/-- All a sleep can do: no attempt is shown in it, and it lasts as long as it is asked to or ends in a cut of host power. -/
theorem sleep_cases (ms : Nat) (s : State) :
    (∃ u, sleep ms s = .ok () u ∧ s.shows u [] ∧ s.now + ms ≤ u.now) ∨ ∃ u, sleep ms s = .error .cut u ∧ s.shows u [] := by
  have hemit : s.shows (s.emit (.sleep ms)) [] :=
    ⟨State.adds_event (e := .sleep ms) rfl (by simp), rfl, le_rfl⟩
  obtain ⟨p, i, hp⟩ := draws_popSleep (s.emit (.sleep ms))
  have hrun : sleep ms s = suspend (ms + p.dur) p { s.emit (.sleep ms) with inp := i } := by
    unfold sleep
    rw [Op.bind_ok (emit_run _ s), Op.bind_ok hp]
  rw [hrun]
  obtain ⟨till, hle, -, h⟩ | h := suspend_cases (ms + p.dur) p { s.emit (.sleep ms) with inp := i }
  · exact .inr ⟨_, h, hemit.trans ((s.emit (.sleep ms)).shows_drawn i hle _)⟩
  · refine .inl ⟨_, h, hemit.trans ((s.emit (.sleep ms)).shows_drawn i (Nat.le_add_right _ _) _), ?_⟩
    rw [State.elapse_now]
    exact Nat.add_le_add_left (Nat.le_add_right _ _) _

end Shows

/-! Transaction attempts. -/

/-- An attempt that is answered shows its event, stamped with its end; one that is not ends in a cut of host power or in a fault
of the model, and shows none. -/
def OneAttempt {α : Type} (ev : Except Failure α → Event) (t : Op (Except Failure α)) : Prop :=
  ∀ s, (∃ a u, t s = .ok a u ∧ s.shows u [(u.now, ev a)]) ∨
    ∃ e u, t s = .error e u ∧ (e = .cut ∨ ∃ f, e = .stop f) ∧ s.shows u []

theorem guardBus_ok_or_stop (s : State) : guardBus s = .ok () s ∨ ∃ f, guardBus s = .error (.stop f) s := by
  obtain ⟨-, -, h⟩ | ⟨-, -, h⟩ | ⟨-, h⟩ := guardBus_cases s
  · exact .inl h
  · exact .inr ⟨_, h⟩
  · exact .inr ⟨_, h⟩

theorem oneAttempt_memRead (r : Byte) (n : Nat) : OneAttempt (.read r n) (memRead r n) := by
  intro s
  unfold memRead
  obtain hg | ⟨f, hg⟩ := guardBus_ok_or_stop s
  · obtain ⟨d, i, hd⟩ := draws_popBus s
    rw [Op.bind_ok hg, Op.bind_ok hd]
    obtain ⟨till, hle, -, h⟩ | h := suspend_cases d.susp.dur d.susp { s with inp := i }
    · exact .inr ⟨_, _, Op.bind_error h, .inl rfl, s.shows_drawn i hle _⟩
    · rw [Op.bind_ok h, Op.bind_ok (Op.get_run _)]
      exact .inl ⟨_, _, rfl, (s.shows_drawn i (Nat.le_add_right _ _) _).trans
        ⟨State.adds_event (e := .read r n _) rfl (by simp), rfl, le_rfl⟩⟩
  · exact .inr ⟨_, _, Op.bind_error hg, .inr ⟨f, rfl⟩, s.shows_refl⟩

theorem oneAttempt_memWrite (r : Byte) (data : List Byte) : OneAttempt (.write r data) (memWrite r data) := by
  intro s
  unfold memWrite
  obtain hg | ⟨f, hg⟩ := guardBus_ok_or_stop s
  · obtain ⟨d, i, hd⟩ := draws_popBus s
    rw [Op.bind_ok hg, Op.bind_ok hd]
    obtain ⟨till, hle, -, h⟩ | h := suspend_cases d.susp.dur d.susp { s with inp := i }
    · exact .inr ⟨_, _, Op.bind_error (onCut_cut h), .inl rfl, (s.shows_drawn i hle _).trans
        ⟨State.adds_nil rfl, rfl, le_rfl⟩⟩
    · rw [Op.bind_ok (onCut_ok h), Op.bind_ok (Op.get_run _)]
      exact .inl ⟨_, _, rfl, (s.shows_drawn i (Nat.le_add_right _ _) _).trans
        ⟨State.adds_event (e := .write r data _) rfl (by simp), rfl, le_rfl⟩⟩
  · exact .inr ⟨_, _, Op.bind_error hg, .inr ⟨f, rfl⟩, s.shows_refl⟩

/-! The retry loop. -/

/-- The state an operation ended in. -/
def endState {α : Type} : EStateM.Result Exc State α → State
  | .ok _ t => t
  | .error _ t => t

/-- What a transaction with `k` retries left shows from `s` to its end `r`: the attempts `as`. -/
structure Tried {α : Type} (ev : Except Failure α → Event) (s : State) (k : Nat) (r : EStateM.Result Exc State α)
    (as : List (Nat × Event)) : Prop where
  shows : s.shows (endState r) as
  count : as.length ≤ k + 1
  spaced : (as.map Prod.fst).Pairwise fun a b => a + 10 ≤ b
  since : ∀ a ∈ as, s.now ≤ a.1
  noWait : ∀ u, r ≠ .error .wait u
  last : ∀ f u, r = .error (.raise (.transport (.retry f))) u →
    failureFatal f = false ∧ as.length = k + 1 ∧ (as.map Prod.snd).getLast? = some (ev (.error f))

section Tried

variable {α : Type} {ev : Except Failure α → Event} {t : Op (Except Failure α)} {s u v : State} {k : Nat}
  {r : EStateM.Result Exc State α} {as : List (Nat × Event)}

/-- A transaction that ends without an answered attempt. -/
theorem Tried.none {e : Exc} (h : s.shows u []) (he : e = .cut ∨ ∃ f, e = .stop f) : Tried ev s k (.error e u) [] where
  shows := h
  count := Nat.zero_le _
  spaced := .nil
  since := by simp
  noWait := by obtain rfl | ⟨f, rfl⟩ := he <;> simp
  last := by obtain rfl | ⟨f, rfl⟩ := he <;> simp

/-- A transaction that ends after its first attempt. -/
theorem Tried.one {n : Nat} {e : Event} (hn : s.now ≤ n) (h : s.shows (endState r) [(n, e)]) (hw : ∀ u, r ≠ .error .wait u)
    (hl : ∀ f u, r = .error (.raise (.transport (.retry f))) u → failureFatal f = false ∧ k = 0 ∧ e = ev (.error f)) :
    Tried ev s k r [(n, e)] where
  shows := h
  count := by simp
  spaced := by simp
  since := by simpa using hn
  noWait := hw
  last := fun f u hr => by
    obtain ⟨hf, rfl, rfl⟩ := hl f u hr
    exact ⟨hf, rfl, rfl⟩

/-- An attempt, its backoff of at least 10 ms, and the rest of the transaction. -/
theorem Tried.cons {e : Event} (h : s.shows u [(u.now, e)]) (hs : u.shows v []) (hb : u.now + 10 ≤ v.now)
    (hr : Tried ev v k r as) : Tried ev s (k + 1) r ((u.now, e) :: as) where
  shows := (h.trans hs).trans hr.shows
  count := Nat.succ_le_succ hr.count
  spaced := by
    rw [List.map_cons, List.pairwise_cons]
    refine ⟨fun b hmem => ?_, hr.spaced⟩
    obtain ⟨a, ha, rfl⟩ := List.mem_map.mp hmem
    exact hb.trans (hr.since a ha)
  since := fun a ha => by
    obtain rfl | ha := List.mem_cons.mp ha
    · exact h.now
    · exact ((h.trans hs).now).trans (hr.since a ha)
  noWait := hr.noWait
  last := fun f w hf => by
    obtain ⟨htransient, hlen, hlast⟩ := hr.last f w hf
    exact ⟨htransient, by rw [List.length_cons, hlen], by rw [List.map_cons, List.getLast?_cons, hlast]; rfl⟩

/-- A transaction ends with its next attempt, unless that attempt fails transiently. -/
theorem retryLoop_next (ht : OneAttempt ev t) (k : Nat) (s : State) :
    (∃ as, Tried ev s k (retryLoop t k s) as) ∨
      ∃ f u, t s = .ok (.error f) u ∧ failureFatal f = false ∧ s.shows u [(u.now, ev (.error f))] := by
  obtain ⟨a, u, h, hu⟩ | ⟨e, u, h, he, hu⟩ := ht s
  · cases a with
    | ok v =>
      rw [retryLoop_ok h]
      exact .inl ⟨_, .one hu.now hu (by simp) (by simp)⟩
    | error f =>
      cases hf : failureFatal f with
      | true =>
        rw [retryLoop_fatal h hf]
        exact .inl ⟨_, .one hu.now hu (by simp) (by simp)⟩
      | false => exact .inr ⟨f, u, h, hf, hu⟩
  · rw [retryLoop_error h]
    exact .inl ⟨_, .none hu he⟩

/-- A transaction with `k` retries left makes at most `k + 1` attempts, 10 ms apart (40_transport R203). -/
theorem retryLoop_tried (ht : OneAttempt ev t) (k : Nat) (s : State) : ∃ as, Tried ev s k (retryLoop t k s) as := by
  induction k generalizing s with
  | zero =>
    obtain hdone | ⟨f, u, h, hf, hu⟩ := retryLoop_next ht 0 s
    · exact hdone
    · rw [retryLoop_last h hf]
      exact ⟨_, .one hu.now hu (by simp) (by simp [hf])⟩
  | succ k ih =>
    obtain hdone | ⟨f, u, h, hf, hu⟩ := retryLoop_next ht (k + 1) s
    · exact hdone
    · rw [retryLoop_again h hf]
      obtain ⟨v, hv, hshows, hb⟩ | ⟨v, hv, hshows⟩ := sleep_cases retryBackoffMs u
      · rw [Op.bind_ok hv]
        obtain ⟨as, has⟩ := ih v
        exact ⟨_, .cons hu hshows hb has⟩
      · rw [Op.bind_error hv]
        exact ⟨_, .one hu.now (hu.trans hshows) (by simp) (by simp)⟩

end Tried

/-! Operations of one transaction. -/

section Transaction

variable {α : Type} {ev : Except Failure α → Event} {t : Op (Except Failure α)} {g : α → Value} {x : Op α} {s u : State}

/-- All that an operation that gives the value of `x` can end in, where `x` does not wait. -/
theorem giving_next (hw : ∀ u, x s ≠ .error .wait u) (h : finish (giving g x) s = .next u) :
    (∃ a v, x s = .ok a v ∧ u = v.gives (g a)) ∨ (∃ e v, x s = .error (.raise e) v ∧ u = v.fails e) ∨
      ∃ v, x s = .error .cut v ∧ u = v.powerCut := by
  cases hx : x s with
  | ok a v =>
    rw [giving_ok hx] at h
    cases h
    exact .inl ⟨a, v, rfl, rfl⟩
  | error e v =>
    cases e with
    | raise e =>
      rw [giving_raise hx] at h
      cases h
      exact .inr (.inl ⟨e, v, rfl, rfl⟩)
    | wait => exact absurd hx (hw v)
    | cut =>
      rw [giving_cut hx] at h
      cases h
      exact .inr (.inr ⟨v, rfl, rfl⟩)
    | stop f =>
      rw [giving_stop hx] at h
      cases h

/-- An operation shows what it is made of shows, and at most a cut of host power after it. -/
theorem giving_adds {as : List (Nat × Event)} (hw : ∀ u, x s ≠ .error .wait u) (hs : s.shows (endState (x s)) as)
    (h : finish (giving g x) s = .next u) : s.adds u as ∧ (u.wasCut ∨ u.holder = s.holder) := by
  obtain ⟨a, v, hx, rfl⟩ | ⟨e, v, hx, rfl⟩ | ⟨v, hx, rfl⟩ := giving_next hw h
  · rw [hx] at hs
    exact ⟨hs.trace, .inr hs.holder⟩
  · rw [hx] at hs
    exact ⟨hs.trace, .inr hs.holder⟩
  · rw [hx] at hs
    have hcut : v.adds v.powerCut [] := State.adds_event (e := .powerCut) rfl (by simp)
    exact ⟨by simpa using hs.trace.trans hcut, .inl ⟨v, rfl⟩⟩

/-- The events added are the new ones. -/
theorem State.adds.newEvents {as : List (Nat × Event)} (h : s.adds u as) :
    (s.newEvents u).filter Event.isAttempt = as.map Prod.snd := by
  obtain ⟨es, he, rfl, -⟩ := h
  rw [State.newEvents, he, List.drop_left, List.filter_map]
  rfl

theorem attempt4_bound (ht : OneAttempt ev t) (h : finish (giving g (attempt4 t)) s = .next u) :
    ∃ es, u.trace = s.trace ++ es ∧
      (es.filter fun e => e.2.isAttempt).length ≤ 4 ∧
      ((es.filter fun e => e.2.isAttempt).map Prod.fst).Pairwise (fun a b => a + 10 ≤ b) ∧
      (∀ e ∈ es, ∀ a, e.2 ≠ .lock a ∧ e.2 ≠ .unlock a) ∧
      (u.wasCut ∨ u.holder = s.holder) := by
  obtain ⟨as, htried⟩ := retryLoop_tried ht retryMax s
  obtain ⟨⟨es, he, rfl, hlock⟩, hheld⟩ := giving_adds htried.noWait htried.shows h
  exact ⟨es, he, htried.count, htried.spaced, hlock, hheld⟩

theorem attempt4_retry {f : Failure} (ht : OneAttempt ev t) (h : finish (giving g (attempt4 t)) s = .next u)
    (hu : u.result = some (.error (.transport (.retry f)))) :
    failureFatal f = false ∧ ((s.newEvents u).filter Event.isAttempt).length = 4 ∧
      ((s.newEvents u).filter Event.isAttempt).getLast? = some (ev (.error f)) := by
  obtain ⟨as, htried⟩ := retryLoop_tried ht retryMax s
  obtain ⟨hadds, -⟩ := giving_adds htried.noWait htried.shows h
  rw [hadds.newEvents, List.length_map]
  obtain ⟨a, v, -, rfl⟩ | ⟨e, v, hx, rfl⟩ | ⟨v, -, rfl⟩ := giving_next htried.noWait h
  · simp at hu
  · cases hu
    exact htried.last f v hx
  · simp [State.powerCut, State.initial] at hu

end Transaction

/-- Settles O10: the retry loop of a read and of a write alike. -/
theorem attemptBound : Obligations.AttemptBound := by
  unfold Obligations.AttemptBound
  intro s u r h
  obtain ⟨n, h⟩ | ⟨data, h⟩ := h
  · exact attempt4_bound (oneAttempt_memRead r n) h
  · exact attempt4_bound (g := fun _ => .unit) (oneAttempt_memWrite r data) h

/-- Settles O11: only the last attempt's transient failure is raised as `Retry`. -/
theorem retryCarriesLast : Obligations.RetryCarriesLast := by
  unfold Obligations.RetryCarriesLast
  exact ⟨fun _ => rfl, fun s u r f => ⟨fun n h => attempt4_retry (oneAttempt_memRead r n) h,
    fun data h => attempt4_retry (g := fun _ => .unit) (oneAttempt_memWrite r data) h⟩⟩

end Sys2Proof.Machine
end

section
/-! PROOFS. What a suspension leaves of the block (`State.sameBlock`), and the frame of the write operations (O21). -/

namespace Sys2Proof.Machine

/-! The running agent's engine (10_state R24). -/

@[simp] theorem State.arm_pcDfu (s : State) : s.arm.pcDfu = s.pcDfu := by
  obtain ⟨i, w, h⟩ := s.arm_eq
  rw [h]

@[simp] theorem State.wake_pcDfu (s : State) : s.wake.pcDfu = s.pcDfu := by
  unfold State.wake
  split <;> simp

@[simp] theorem State.wakes_pcDfu (s : State) (till k : Nat) : (s.wakes till k).pcDfu = s.pcDfu := by
  induction k generalizing s with
  | zero => rfl
  | succ k ih =>
    unfold State.wakes
    split
    · rfl
    · split
      · rw [ih, State.wake_pcDfu]
      · rfl

@[simp] theorem State.passTo_pcDfu (s : State) (till : Nat) : (s.passTo till).pcDfu = s.pcDfu := s.wakes_pcDfu till _

/-- A request's agent sets no other agent's engine. -/
theorem State.atValidate_lookup (s : State) (i : Instr) {a : Agent} {k : Nat} (h : a ≠ .ctrl k) :
    (s.atValidate i k).pcDfu.lookup a = s.pcDfu.lookup a := by
  unfold State.atValidate
  split
  · exact setPoint_lookup_ne _ _ h
  · rfl

theorem State.start_lookup (s : State) {q : Request} {a : Agent} (h : a ≠ .ctrl q.id) :
    (s.start q).pcDfu.lookup a = s.pcDfu.lookup a := by
  unfold State.start
  split
  · rfl
  · next i _ =>
    split
    · exact State.atValidate_lookup _ i h
    · next hi =>
      split
      · rfl
      · split
        · next hk =>
          obtain ⟨-, -, p, rfl⟩ := State.requestHold_accepted hi hk
          exact State.atValidate_lookup s i h
        · rfl

theorem State.send_pcDfu (s : State) (a : Agent) : (s.send a).pcDfu = s.pcDfu := by
  unfold State.send
  split <;> rfl

/-- The running agent is not one of those whose runs land while it waits (60_exceptions R640). -/
theorem State.act_lookup (s : State) (e : EnvAct) : (s.act e).pcDfu.lookup s.cur = s.pcDfu.lookup s.cur := by
  cases e with
  | signal k => rfl
  | request w =>
    simp only [State.act]
    split <;> rfl
  | serve k =>
    simp only [State.act, State.serve]
    split
    · rfl
    · next hcur =>
      split
      · rw [State.send_pcDfu]
      · split
        · rfl
        · next q hq =>
          have hid := List.find?_some hq
          simp only [Bool.and_eq_true, beq_iff_eq] at hid
          exact s.start_lookup (by rwa [hid.1])
  | wake =>
    simp only [State.act]
    split
    · split
      · rw [State.wake_pcDfu]
      · rfl
    · rfl

theorem State.around_cur {s u : State} (h : s.around u) : u.cur = s.cur := by rw [h]

theorem State.elapse_lookup (s : State) (till : Nat) (l : List Arrival) :
    (s.elapse till l).pcDfu.lookup s.cur = s.pcDfu.lookup s.cur := by
  induction l generalizing s with
  | nil => exact congrArg _ (s.passTo_pcDfu till)
  | cons a l ih =>
    have hpass : (s.passTo (min (s.now + a.after) till)).cur = s.cur := State.around_cur (s.passTo_around _)
    have hact := State.act_lookup (s.passTo (min (s.now + a.after) till)) a.act
    have hrest := ih ((s.passTo (min (s.now + a.after) till)).act a.act)
    rw [State.around_cur (State.ran_act _ _).around, hpass] at hrest
    rw [hpass, State.passTo_pcDfu] at hact
    exact hrest.trans hact

/-! The rest of the block. -/

/-- The supervisor's point and who waits at `Lock()` in `u`, after what landed while the running agent of `s` waited: the
supervisor's own run stays where it is, a sleeping supervisor may have begun a tick, and nobody stops waiting. -/
structure State.stays (s u : State) : Prop where
  cur : u.cur = s.cur
  own : s.cur = .supervisor → u.pcSup = s.pcSup ∧ u.supWake = s.supWake
  point : u.pcSup = s.pcSup ∨
    ((s.pcSup = .init ∨ s.pcSup = .sleeping) ∧ (u.pcSup = .sleeping ∨ u.pcSup = .waitLock ∨ u.pcSup = .exiting))
  waiters : ∃ ws, u.waiters = s.waiters ++ ws

theorem State.stays_refl (s : State) : s.stays s := ⟨rfl, fun _ => ⟨rfl, rfl⟩, .inl rfl, [], by simp⟩

theorem State.stays.trans {s t u : State} (h : s.stays t) (g : t.stays u) : s.stays u := by
  obtain ⟨ws, hw⟩ := h.waiters
  obtain ⟨vs, hv⟩ := g.waiters
  refine ⟨g.cur.trans h.cur, fun hs => ?own, ?point, ws ++ vs, by rw [hv, hw, List.append_assoc]⟩
  case own =>
    obtain ⟨hp, hk⟩ := h.own hs
    obtain ⟨gp, gk⟩ := g.own (h.cur.trans hs)
    exact ⟨gp.trans hp, gk.trans hk⟩
  case point =>
    obtain hp | ⟨hs, hp⟩ := h.point
    · rw [← hp]
      exact g.point
    · obtain gp | ⟨-, gp⟩ := g.point
      · rw [gp]
        exact .inr ⟨hs, hp⟩
      · exact .inr ⟨hs, gp⟩

theorem State.lasts_stays (s : State) : Lasts s.stays := by
  intro u v hu l
  refine hu.trans ?_
  cases l with
  | time | signal | request | reply | answer => exact ⟨rfl, fun _ => ⟨rfl, rfl⟩, .inl rfl, [], by simp⟩
  | wait => exact ⟨rfl, fun _ => ⟨rfl, rfl⟩, .inl rfl, _, rfl⟩
  | tick hdue _ _ _ hpoint => exact ⟨rfl, fun hc => absurd hc hdue.other, .inr ⟨hdue.rests, .inr hpoint⟩, _, rfl⟩
  | nap hdue hpoint => exact ⟨rfl, fun hc => absurd hc hdue.other, .inr ⟨hdue.rests, .inl hpoint⟩, [], by simp⟩

theorem State.sameBlock_elapse (s : State) (till : Nat) (l : List Arrival) : s.sameBlock (s.elapse till l) := by
  obtain ⟨-, hown, hpoint, hwait⟩ := Lasts.elapse s.lasts_stays s.stays_refl till l
  have haround := s.elapse_around till l
  refine ⟨?_, hown, hpoint, s.elapse_lookup till l, hwait⟩
  rw [State.elapse_comp, State.elapse_result]
  exact haround

theorem State.sameBlock_trans {s t u : State} (h : s.sameBlock t) (g : t.sameBlock u) : s.sameBlock u := by
  obtain ⟨hframe, hown, hpoint, hengine, hwait⟩ := h
  obtain ⟨gframe, gown, gpoint, gengine, gwait⟩ := g
  have hcur : t.cur = s.cur := by rw [hframe]
  have gcur : u.cur = t.cur := by rw [gframe]
  obtain ⟨-, own, point, wait⟩ :=
    State.stays.trans ⟨hcur, hown, hpoint, hwait⟩ ⟨gcur, gown, gpoint, gwait⟩
  refine ⟨?_, own, point, ?_, wait⟩
  · rw [gframe, hframe]
  · rw [hcur] at gengine
    exact gengine.trans hengine

/-- The ports, the companion and the result are no register of the block. -/
theorem State.sameBlock_ports (s : State) (tr : List (Nat × Event)) (p : Inputs) (c : Companion) (r : Option Result) :
    s.sameBlock { s with trace := tr, inp := p, comp := c, result := r } :=
  ⟨rfl, fun _ => ⟨rfl, rfl⟩, .inl rfl, rfl, [], by simp⟩

/-! Operations that write to one register. -/

/-- `P` sees neither what lands in a suspension of the running agent nor the events and the draws. -/
structure Undisturbed (P : State → Prop) : Prop where
  elapse : ∀ {s : State} {till : Nat} {l : List Arrival}, P s → P (s.elapse till l)
  ports : ∀ {s : State} {tr : List (Nat × Event)} {p : Inputs}, P s → P { s with trace := tr, inp := p }

/-- Such a `P`, which does not see what a write attempt to `r` leaves of the companion either. -/
structure BlindTo (r : Byte) (P : State → Prop) : Prop extends Undisturbed P where
  answer : ∀ {s : State} {any : Bool} {now : Nat} {data : List Byte} {resp : BusResp},
    P s → P { s with comp := (s.comp.answerWrite any now r data resp).2 }

section Blind

variable {α : Type} {F : Prop} {P : State → Prop} {R : Err → State → Prop} {W : State → Prop} {r : Byte}

theorem Undisturbed.suspend (h : Undisturbed P) (ms : Nat) (p : Susp) : Meets F P (suspend ms p) (fun _ => P) R W := by
  intro s hs
  obtain ⟨till, -, -, e⟩ | e := suspend_cases ms p s
  · rw [e]
    trivial
  · rw [e]
    exact h.elapse hs

theorem Undisturbed.emit (h : Undisturbed P) (e : Event) : Meets F P (emit e) (fun _ => P) R W := fun _ hs => h.ports hs

theorem Undisturbed.draw (h : Undisturbed P) {x : Op α} (hx : Draws x) : Meets F P x (fun _ => P) R W :=
  hx.meets fun _ _ _ hs => h.ports hs

theorem Undisturbed.sleep (h : Undisturbed P) (ms : Nat) : Meets F P (sleep ms) (fun _ => P) R W :=
  meets_bind (h.emit _) fun _ => meets_bind (h.draw draws_popSleep) fun _ => h.suspend _ _

/-- Attempts and backoffs that keep `P` make a transaction that keeps it. -/
theorem Undisturbed.retryLoop (h : Undisturbed P) {t : Op (Except Failure α)} (ht : Runs F P t) (k : Nat) :
    Runs F P (retryLoop t k) := by
  induction k with
  | zero =>
    refine meets_bind ht fun a => ?_
    split
    · exact runs_pure _
    · exact meets_ite (fun _ => runs_raise _) fun _ => runs_raise _
  | succ k ih =>
    refine meets_bind ht fun a => ?_
    split
    · exact runs_pure _
    · exact meets_ite (fun _ => runs_raise _) fun _ => meets_bind (h.sleep _) fun _ => ih

theorem runs_guardBus : Runs True P guardBus := by
  intro s hs
  obtain h | ⟨f, h⟩ := guardBus_ok_or_stop s
  · rw [h]
    exact hs
  · rw [h]
    trivial

theorem runs_stop (f : Fault) : Runs True P (stop f : Op α) := meets_stop fun _ _ => trivial

theorem BlindTo.memWrite (h : BlindTo r P) (data : List Byte) : Runs True P (memWrite r data) :=
  meets_bind runs_guardBus fun _ => meets_bind (h.draw draws_popBus) fun _ => meets_bind (h.suspend _ _).onCut fun _ =>
    fun _ hs => h.ports (h.answer hs)

theorem BlindTo.wrreg (h : BlindTo r P) (data : List Byte) : Runs True P (wrreg r data) := h.retryLoop (h.memWrite data) _

theorem BlindTo.wruN (h : BlindTo r P) (k v : Nat) : Runs True P (wruN k r v) :=
  meets_ite (fun _ => h.wrreg _) fun _ => runs_stop _

theorem BlindTo.setUsb {p : Int} (h : BlindTo (usbReg p) P) (on : Bool) : Runs True P (setUsb p on) :=
  meets_ite (fun _ => h.wruN 1 _) fun _ => runs_raise _

theorem BlindTo.requestStandby (h : BlindTo 0x31 P) (seconds : Nat) : Runs True P (requestStandby seconds) :=
  meets_bind meets_get fun _ => meets_ite (fun _ => h.wrreg _) fun _ => runs_stop _

theorem BlindTo.dfuStart (h : BlindTo 0x40 P) (n : Nat) : Runs True P (dfuStart n) :=
  meets_ite (fun _ => h.wruN 4 n) fun _ => runs_raise _

theorem BlindTo.dfuBlock (h : BlindTo 0x43 P) (i : Nat) (d : List Byte) : Runs True P (dfuBlock i d) :=
  meets_bind (meets_ite (fun _ => runs_pure _) fun _ => runs_stop _) fun _ => h.wrreg _

/-- A write operation keeps what is blind to its register, and gives nothing. -/
theorem exec_writeTarget {i : Instr} (hi : writeTarget i = some r) (h : BlindTo r P) :
    ∃ x : Op Unit, (∀ s, exec i s = finish (doing x) s) ∧ Runs True P x := by
  cases i <;> cases hi
  case wrreg => exact ⟨_, fun _ => rfl, h.wrreg _⟩
  case wrPon | wru8 | wru16 | wru32 => exact ⟨_, fun _ => rfl, h.wruN _ _⟩
  case wdArm | wdFeed => exact ⟨_, fun _ => rfl, h.wruN 2 wdTimeoutCs⟩
  case wdDisable => exact ⟨_, fun _ => rfl, h.wruN 2 0⟩
  case wrShutdown | requestShutdown => exact ⟨_, fun _ => rfl, h.wruN 1 1⟩
  case wrDfuCommit | wrDfuAbort => exact ⟨_, fun _ => rfl, h.wruN 1 0⟩
  case wrUsb0 => exact ⟨_, fun _ => rfl, BlindTo.setUsb (p := 0) h _⟩
  case wrUsb1 => exact ⟨_, fun _ => rfl, BlindTo.setUsb (p := 1) h _⟩
  case wrUsb2 => exact ⟨_, fun _ => rfl, BlindTo.setUsb (p := 2) h _⟩
  case wrUsb3 => exact ⟨_, fun _ => rfl, BlindTo.setUsb (p := 3) h _⟩
  case setUsb => exact ⟨_, fun _ => rfl, h.setUsb _⟩
  case wrStandby | requestStandby => exact ⟨_, fun _ => rfl, h.requestStandby _⟩
  case wrDfuStart => exact ⟨_, fun _ => rfl, h.dfuStart _⟩
  case wrDfuBlock => exact ⟨_, fun _ => rfl, h.dfuBlock _ _⟩

/-- Where an operation that keeps `P` and does not wait ends, `P` holds but for the result, or host power was cut. -/
theorem Runs.next {x : Op Result} {s t : State} (hx : Runs F P x) (hs : P s) (h : finish x s = .next t) :
    t.wasCut ∨ ∃ u res, P u ∧ t = { u with result := res } := by
  have hend := hx s hs
  obtain ⟨a, u, e, rfl⟩ | ⟨err, u, e, rfl⟩ | e | ⟨u, e, rfl⟩ := finish_next h
  · rw [e] at hend
    exact .inr ⟨u, _, hend, rfl⟩
  · rw [e] at hend
    exact .inr ⟨u, _, hend, rfl⟩
  · rw [e] at hend
    exact hend.elim
  · exact .inl ⟨u, rfl⟩

end Blind

/-! The frame of a write (40_transport R201, 60_exceptions R631). -/

/-- `t` is `s` but for what the ports and what lands may change, and of the companion's known bytes all but a USB register `r`
is the same. -/
def State.wroteOnly (r : Byte) (s t : State) : Prop :=
  s.sameBlock t ∧ ∀ a, a ≠ r.toNat ∨ ¬(0x26 ≤ a ∧ a ≤ 0x29) → t.comp.mem.byteAt a = s.comp.mem.byteAt a

/-- What a write attempt leaves known of the companion is noted, and nothing else (60_exceptions R631). -/
theorem answerWrite_mem (c : Companion) (any : Bool) (now : Nat) (r : Byte) (data : List Byte) (resp : BusResp) :
    ∃ ok, (c.answerWrite any now r data resp).2.mem = noteWrite c.mem r data ok := by
  unfold Companion.answerWrite
  split <;> exact ⟨_, rfl⟩

/-- A write attempt to a register other than the USB ones notes nothing. -/
theorem noteWrite_plain {r : Byte} (h : ¬(0x26 ≤ r.toNat ∧ r.toNat ≤ 0x29)) (m : Memory) (data : List Byte) (ok : Bool) :
    noteWrite m r data ok = m := by
  have hr : isUsbReg r = false := by simpa [isUsbReg] using h
  simp [noteWrite, hr]

theorem byteAt_noteWrite_frame {r : Byte} {a : Nat} (h : a ≠ r.toNat ∨ ¬(0x26 ≤ a ∧ a ≤ 0x29)) (m : Memory)
    (data : List Byte) (ok : Bool) : (noteWrite m r data ok).byteAt a = m.byteAt a := by
  by_cases ha : a = r.toNat
  · rw [noteWrite_plain (ha ▸ h.resolve_left (not_not_intro ha))]
  · exact byteAt_noteWrite_other m r data ok ha

theorem blindTo_wroteOnly (r : Byte) (s : State) : BlindTo r (s.wroteOnly r) where
  elapse := fun {u till l} ⟨hblock, hmem⟩ =>
    ⟨State.sameBlock_trans hblock (u.sameBlock_elapse till l), by rwa [State.elapse_comp]⟩
  ports := fun {u tr p} ⟨hblock, hmem⟩ => ⟨State.sameBlock_trans hblock (u.sameBlock_ports tr p u.comp u.result), hmem⟩
  answer := fun {u any now data resp} ⟨hblock, hmem⟩ => by
    refine ⟨State.sameBlock_trans hblock (u.sameBlock_ports u.trace u.inp _ u.result), fun a ha => ?_⟩
    obtain ⟨ok, hnote⟩ := answerWrite_mem u.comp any now r data resp
    rw [hnote, byteAt_noteWrite_frame ha, hmem a ha]

/-- Settles O21: the frame of a write is kept by all that a write operation does. -/
theorem writesFrame : Obligations.WritesFrame := by
  unfold Obligations.WritesFrame
  intro i r s t hi h
  obtain ⟨x, hexec, hx⟩ := exec_writeTarget hi (blindTo_wroteOnly r s)
  rw [hexec] at h
  have hdoing : Runs True (s.wroteOnly r) (doing x) := meets_bind hx fun _ => runs_pure _
  have hstart : s.wroteOnly r s := ⟨s.sameBlock_ports s.trace s.inp s.comp s.result, fun _ _ => rfl⟩
  obtain hcut | ⟨u, res, ⟨hblock, hmem⟩, rfl⟩ := hdoing.next hstart h
  · exact .inl hcut
  · exact .inr ⟨State.sameBlock_trans hblock (u.sameBlock_ports u.trace u.inp u.comp res), hmem⟩

end Sys2Proof.Machine
end

section
/-! PROOFS. The named reads whose first attempt succeeds (O12, O13, O15), and the ports that are not found (O16). -/

namespace Sys2Proof.Machine

section NamedReads

variable {s : State} {d : BusDraw} {r : Byte}

@[simp] theorem State.didRead_dialect (s : State) (d : BusDraw) (r : Byte) (n : Nat) :
    (s.didRead d r n).dialect = s.dialect := by
  simp [State.didRead, State.atAnswer]

theorem rdHwver_reads {a b c : Byte} (h : s.reads d 0x03 3 [a, b, c]) :
    rdHwver s = .ok ⟨a, b, c⟩ (s.didRead d 0x03 3) := Op.bind_ok (rdreg_reads h)

/-- Alpha 255 is a release (41_register_ops R251). -/
theorem fwVersionOf_bytes (a b c e : Byte) : fwVersionOf [a, b, c, e] = ⟨a, b, c, e, decide (e = 255)⟩ := rfl

theorem rdFwver_reads {bs : List Byte} (h : s.reads d 0x04 4 bs) :
    rdFwver s = .ok (fwVersionOf bs) (s.didRead d 0x04 4) := Op.bind_ok (rdreg_reads h)

theorem rdPstate_reads {b : Byte} (h : s.reads d 0x25 1 [b]) : rdPstate s = .ok (decodePs b) (s.didRead d 0x25 1) :=
  Op.bind_ok (rdu8_reads h)

/-- Settles O12: each is one raw read, whose bytes the named operation splits or decodes. -/
theorem identityReads : Obligations.IdentityReads := by
  unfold Obligations.IdentityReads
  intro s d
  refine ⟨fun a b c h => giving_ok (rdHwver_reads h), fun a b c e h => ?firmware, fun bs h => giving_ok (rdreg_reads h),
    fun b h => ⟨decodePs b, giving_ok (rdPstate_reads h), ?_, ?_, ?_, ?_, decodePs_unnamed, ?_, decodePs_unknown⟩⟩
  case firmware =>
    rw [← fwVersionOf_bytes]
    exact giving_ok (rdFwver_reads h)
  all_goals
    rintro rfl
    rfl

/-! The sampler. -/

theorem ofNat_decBe_word (a b : Byte) : BitVec.ofNat 16 (decBe [a, b]) = a ++ b := by
  apply BitVec.eq_of_toNat_eq
  have ha := a.isLt
  have hb := b.isLt
  rw [decBe_word, BitVec.toNat_ofNat, Nat.mod_eq_of_lt (by omega), BitVec.toNat_append, ← Nat.shiftLeft_add_eq_or_of_lt hb,
    Nat.shiftLeft_eq]

theorem rdu16_reads {bs : List Byte} (hd : s.dialect = some .two) (h : s.reads d r 2 bs) :
    rdu16 r s = .ok (decBe bs) (s.didRead d r 2) := by
  rw [rdu16_dialect2 hd, rdword_reads h]

/-- Settles O13: each read of the sequence begins in the state that the one before left. -/
theorem snapshotCompletes : Obligations.SnapshotCompletes := by
  unfold Obligations.SnapshotCompletes
  rintro s s1 s2 s3 s4 s5 s6 d0 d1 d2 d3 d4 d5 a0 b0 a1 b1 a2 b2 a3 b3 a4 b4 p hd h0 rfl h1 rfl h2 rfl h3 rfl h4 rfl h5 rfl
  refine giving_ok ?_
  unfold readMeasurements
  rw [Op.bind_ok (rdu16_reads hd h0), Op.bind_ok (rdu16_reads (by simp [hd]) h1), Op.bind_ok (rdu16_reads (by simp [hd]) h2),
    Op.bind_ok (rdu16_reads (by simp [hd]) h3), Op.bind_ok (rdu16_reads (by simp [hd]) h4), Op.bind_ok (rdPstate_reads h5)]
  simp only [ofNat_decBe_word, Op.pure_run]

/-! The USB rails. -/

/-- GET_USB's value of a byte read (41_register_ops R261). -/
def usbValue (r b : Byte) : Op Bool := if b = 0 then return false else if b = 1 then return true else raise (.badValue r b)

theorem getUsb_reads {p : Nat} {b : Byte} (hp : p ≤ 3) (h : s.reads d (BitVec.ofNat 8 (0x26 + p)) 1 [b]) :
    getUsb p s = usbValue (BitVec.ofNat 8 (0x26 + p)) b (s.didRead d (BitVec.ofNat 8 (0x26 + p)) 1) := by
  unfold getUsb
  rw [if_pos (portLegal_natCast hp), usbReg_natCast, Op.bind_ok (rdu8_reads h)]
  rfl

/-- The named rows and GET_USB are the same read (log 29). -/
theorem exec_usbRead {c : Instr × Nat} (hc : c ∈ usbReads) {i : Instr} (hi : i ∈ [c.1, Instr.getUsb c.2]) :
    c.2 ≤ 3 ∧ exec i s = finish (giving .bool (getUsb c.2)) s := by
  simp only [usbReads, List.mem_cons, List.not_mem_nil, or_false] at hc hi
  obtain rfl | rfl | rfl | rfl := hc <;> obtain rfl | rfl := hi <;> exact ⟨by decide, rfl⟩

/-- Settles O15: every USB read is GET_USB, which ends as the byte says. (`usbReads` is the model's list of them.) -/
theorem usbReads_hold : Obligations.UsbReads := by
  unfold Obligations.UsbReads
  rintro c hc i hi s d r b rfl h
  obtain ⟨hp, hexec⟩ := exec_usbRead (s := s) hc hi
  have hrun := getUsb_reads hp h
  rw [hexec]
  refine ⟨?off, ?on, fun hb => ?bad⟩
  case off =>
    rintro rfl
    exact giving_ok hrun
  case on =>
    rintro rfl
    exact giving_ok hrun
  case bad =>
    have h0 : b ≠ 0 := by rintro rfl; simp at hb
    have h1 : b ≠ 1 := by rintro rfl; simp at hb
    rw [usbValue, if_neg h0, if_neg h1] at hrun
    exact giving_raise hrun

theorem portLegal_eq_false {p : Int} (h : ¬(p = 0 ∨ p = 1 ∨ p = 2 ∨ p = 3)) : portLegal p = false := by
  rw [portLegal, Bool.and_eq_false_iff, decide_eq_false_iff_not, decide_eq_false_iff_not]
  omega

theorem getUsb_notFound {p : Int} (h : portLegal p = false) : getUsb p s = .error (.raise (.notFound (.port p))) s := by
  simp [getUsb, h]

theorem setUsb_notFound {p : Int} (on : Bool) (h : portLegal p = false) :
    setUsb p on s = .error (.raise (.notFound (.port p))) s := by
  simp [setUsb, h]

/-- A request that does not need the bus is answered by its check. -/
theorem orImmediate_some {i : Instr} {x : Op Reply} {reply : Reply} {c : Cfg} (h : immediateReply s.cfg i = some (reply, c)) :
    orImmediate i x s = .ok reply { s with cfg := c } := by
  unfold orImmediate
  rw [Op.bind_ok (Op.get_run s), h]
  rfl

/-- Settles O16: the port's check comes before the lock and the transaction. -/
theorem portsOutOfRange : Obligations.PortsOutOfRange := by
  unfold Obligations.PortsOutOfRange
  intro s p on hp
  have hport := portLegal_eq_false hp
  exact ⟨giving_raise (getUsb_notFound hport), doing_raise (setUsb_notFound on hport),
    replying_ok (orImmediate_some (by simp [immediateReply, hport])),
    replying_ok (orImmediate_some (by simp [immediateReply, hport]))⟩

end NamedReads

end Sys2Proof.Machine
end

section
/-! PROOFS. The order of the sampler's reads, whatever is answered (O14). -/

namespace Sys2Proof.Machine

/-! Reads shown between two states. -/

/-- From `s` to `u` only registers of `tried` were attempted, by reads, and those of `done` were read, in order. -/
def State.showsReads (s u : State) (done tried : List Byte) : Prop :=
  ∃ as, s.adds u as ∧ (as.map Prod.snd).filterMap Event.readReg = done ∧
    ∀ e ∈ as, ∃ r n res, e.2 = .read r n res ∧ r ∈ tried

section ShowsReads

variable {s t u : State} {done tried : List Byte} {r : Byte} {n : Nat}

theorem State.showsReads_nil (h : s.adds u []) : s.showsReads u [] tried := ⟨[], h, rfl, by simp⟩

theorem State.showsReads_read {v : List Byte} (h : s.shows u [(u.now, .read r n (.ok v))]) : s.showsReads u [r] [r] :=
  ⟨_, h.trace, rfl, List.forall_mem_singleton.mpr ⟨r, n, _, rfl, List.mem_singleton_self r⟩⟩

theorem State.showsReads_failed {f : Failure} (h : s.shows u [(u.now, .read r n (.error f))]) : s.showsReads u [] [r] :=
  ⟨_, h.trace, rfl, List.forall_mem_singleton.mpr ⟨r, n, _, rfl, List.mem_singleton_self r⟩⟩

theorem State.showsReads.trans {done' tried' all : List Byte} (h : s.showsReads t done tried)
    (g : t.showsReads u done' tried') (ht : tried ⊆ all) (ht' : tried' ⊆ all) : s.showsReads u (done ++ done') all := by
  obtain ⟨as, has, rfl, hreads⟩ := h
  obtain ⟨bs, hbs, rfl, greads⟩ := g
  refine ⟨as ++ bs, has.trans hbs, by rw [List.map_append, List.filterMap_append],
    List.forall_mem_append.mpr ⟨fun e he => ?_, fun e he => ?_⟩⟩
  · obtain ⟨r, n, res, hev, hr⟩ := hreads e he
    exact ⟨r, n, res, hev, ht hr⟩
  · obtain ⟨r, n, res, hev, hr⟩ := greads e he
    exact ⟨r, n, res, hev, ht' hr⟩

/-- What adds no attempt to the trace shows no read. -/
theorem State.showsReads.quiet (h : s.showsReads t done tried) (g : t.adds u []) : s.showsReads u done tried := by
  obtain ⟨as, has, hdone, hreads⟩ := h
  exact ⟨as, by simpa using has.trans g, hdone, hreads⟩

/-- Every event that shows a register read is a transaction attempt. -/
theorem filterMap_readReg_attempts (es : List Event) :
    (es.filter Event.isAttempt).filterMap Event.readReg = es.filterMap Event.readReg := by
  rw [List.filterMap_filter]
  congr
  funext e
  cases e <;> rfl

/-- The reads shown, in terms of the new events. -/
theorem State.showsReads.newEvents (h : s.showsReads u done tried) :
    (s.newEvents u).filterMap Event.readReg = done ∧
      ∀ e ∈ s.newEvents u, e.isAttempt = true → ∃ r n res, e = .read r n res ∧ r ∈ tried := by
  obtain ⟨as, has, rfl, hreads⟩ := h
  refine ⟨by rw [← filterMap_readReg_attempts, has.newEvents], fun e he ha => ?_⟩
  have hmem : e ∈ as.map Prod.snd := has.newEvents ▸ List.mem_filter.mpr ⟨he, ha⟩
  obtain ⟨a, has, rfl⟩ := List.mem_map.mp hmem
  exact hreads a has

end ShowsReads

/-! Sequences of reads that stop at the first failure (41_register_ops R256). -/

section InOrder

variable {α β : Type} {s u : State} {r : Byte} {rs : List Byte}

/-- Where the operation goes on it read all of `rs` in order; where it ends early, which is not at `Lock()`, it read the first
registers of `rs` and attempted none but the next one after them. -/
def EndsReads (s : State) (rs : List Byte) : EStateM.Result Exc State α → Prop
  | .ok _ u => s.showsReads u rs rs
  | .error e u => e ≠ .wait ∧ ∃ k < rs.length, s.showsReads u (rs.take k) (rs.take (k + 1))

/-- In dialect 2 `x` reads the registers `rs` in order and stops at the first failure. -/
structure ReadsInOrder (rs : List Byte) (x : Op α) : Prop where
  ends : ∀ s : State, s.dialect = some .two → EndsReads s rs (x s)
  dialect : Runs True (·.dialect = some .two) x

theorem onBus_dialect2 : OnBus True (fun s => s.dialect = some .two) where
  lands := fun hs l => by cases l <;> exact hs
  ports := id
  session := id
  bus := .inl trivial

theorem ReadsInOrder.pure (a : α) : ReadsInOrder [] (pure a : Op α) where
  ends := fun _ _ => State.showsReads_nil (State.adds_nil rfl)
  dialect := runs_pure a

/-- One register's read, then the rest where it goes on. -/
theorem ReadsInOrder.bind {x : Op α} {f : α → Op β} (hx : ReadsInOrder [r] x) (hf : ∀ a, ReadsInOrder rs (f a)) :
    ReadsInOrder (r :: rs) (x >>= f) where
  dialect := meets_bind hx.dialect fun a => (hf a).dialect
  ends := fun s hs => by
    have hfirst := hx.ends s hs
    have hdialect := hx.dialect s hs
    cases h : x s with
    | ok a t =>
      rw [h] at hfirst hdialect
      have hrest := (hf a).ends t hdialect
      rw [Op.bind_ok h]
      cases g : f a t with
      | ok b u =>
        rw [g] at hrest
        exact hfirst.trans hrest (by simp) (by simp)
      | error e u =>
        rw [g] at hrest
        obtain ⟨hne, k, hk, hreads⟩ := hrest
        exact ⟨hne, k + 1, Nat.succ_lt_succ hk, hfirst.trans hreads (by simp) (by simp)⟩
    | error e u =>
      rw [h] at hfirst
      obtain ⟨hne, k, hk, hreads⟩ := hfirst
      obtain rfl : k = 0 := Nat.lt_one_iff.mp hk
      rw [Op.bind_error h]
      exact ⟨hne, 0, Nat.zero_lt_succ _, hreads⟩

/-- A read that ends early without a success. -/
theorem endsReads_error {e : Exc} (he : e ≠ .wait) (h : s.showsReads u [] [r]) :
    EndsReads s [r] (.error e u : EStateM.Result Exc State α) := ⟨he, 0, Nat.zero_lt_one, h⟩

/-- Failed attempts before a read do not change how it ends. -/
theorem EndsReads.after {res : EStateM.Result Exc State α} (h : s.showsReads u [] [r]) (g : EndsReads u [r] res) :
    EndsReads s [r] res := by
  cases res with
  | ok a v => exact h.trans g (by simp) (by simp)
  | error e v =>
    obtain ⟨hne, k, hk, hreads⟩ := g
    exact ⟨hne, k, hk, h.trans hreads (by simp) (by simp)⟩

/-- A transaction ends with its next attempt, unless that attempt fails transiently. -/
theorem retryLoop_memRead_next (r : Byte) (n k : Nat) (s : State) :
    EndsReads s [r] (retryLoop (memRead r n) k s) ∨
      ∃ f u, memRead r n s = .ok (.error f) u ∧ failureFatal f = false ∧ s.showsReads u [] [r] := by
  obtain ⟨a, u, h, hu⟩ | ⟨e, u, h, he, hu⟩ := oneAttempt_memRead r n s
  · cases a with
    | ok v =>
      rw [retryLoop_ok h]
      exact .inl (State.showsReads_read hu)
    | error f =>
      cases hf : failureFatal f with
      | true =>
        rw [retryLoop_fatal h hf]
        exact .inl (endsReads_error nofun (State.showsReads_failed hu))
      | false => exact .inr ⟨f, u, h, hf, State.showsReads_failed hu⟩
  · rw [retryLoop_error h]
    refine .inl (endsReads_error ?_ (State.showsReads_nil hu.trace))
    obtain rfl | ⟨f, rfl⟩ := he <;> nofun

/-- The retry loop reads its register once where it goes on, and never where it ends early (40_transport R203). -/
theorem retryLoop_memRead_endsReads (r : Byte) (n k : Nat) (s : State) : EndsReads s [r] (retryLoop (memRead r n) k s) := by
  induction k generalizing s with
  | zero =>
    obtain hdone | ⟨f, u, h, hf, hfailed⟩ := retryLoop_memRead_next r n 0 s
    · exact hdone
    · rw [retryLoop_last h hf]
      exact endsReads_error nofun hfailed
  | succ k ih =>
    obtain hdone | ⟨f, u, h, hf, hfailed⟩ := retryLoop_memRead_next r n (k + 1) s
    · exact hdone
    · rw [retryLoop_again h hf]
      obtain ⟨v, hsleep, hquiet, -⟩ | ⟨v, hsleep, hquiet⟩ := sleep_cases retryBackoffMs u
      · rw [Op.bind_ok hsleep]
        exact (ih v).after (hfailed.quiet hquiet.trace)
      · rw [Op.bind_error hsleep]
        exact endsReads_error nofun (hfailed.quiet hquiet.trace)

theorem rdreg_readsInOrder (r : Byte) (n : Nat) : ReadsInOrder [r] (rdreg r n) where
  ends := fun s _ => retryLoop_memRead_endsReads r n retryMax s
  dialect := (onBus_dialect2.rdreg r n).runs

theorem rdu8_readsInOrder (r : Byte) : ReadsInOrder [r] (rdu8 r) := (rdreg_readsInOrder r 1).bind fun _ => .pure _

theorem rdword_readsInOrder (r : Byte) : ReadsInOrder [r] (rdword r) := (rdreg_readsInOrder r 2).bind fun _ => .pure _

theorem rdu16_readsInOrder (r : Byte) : ReadsInOrder [r] (rdu16 r) where
  ends := fun s hs => by
    rw [rdu16_dialect2 hs]
    exact (rdword_readsInOrder r).ends s hs
  dialect := (onBus_dialect2.rdu16 (.inl trivial) r).runs

theorem rdPstate_readsInOrder : ReadsInOrder [0x25] rdPstate := (rdu8_readsInOrder 0x25).bind fun _ => .pure _

theorem readMeasurements_readsInOrder : ReadsInOrder [0x20, 0x21, 0x22, 0x23, 0x24, 0x25] readMeasurements :=
  (rdu16_readsInOrder 0x20).bind fun _ => (rdu16_readsInOrder 0x21).bind fun _ => (rdu16_readsInOrder 0x22).bind fun _ =>
    (rdu16_readsInOrder 0x23).bind fun _ => (rdu16_readsInOrder 0x24).bind fun _ =>
      rdPstate_readsInOrder.bind fun _ => .pure _

/-- All that an operation that reads `rs` in order ends in: a value after all of them, or an error or a cut of host power before
the last one. -/
theorem ReadsInOrder.next {x : Op α} {g : α → Value} {t : State} (hx : ReadsInOrder rs x) (hs : s.dialect = some .two)
    (h : finish (giving g x) s = .next t) :
    (∃ a, t.result = some (.value (g a)) ∧ s.showsReads t rs rs) ∨
      (∀ v, t.result ≠ some (.value v)) ∧ ∃ k < rs.length, s.showsReads t (rs.take k) (rs.take (k + 1)) := by
  have hends := hx.ends s hs
  have hwait : ∀ u, x s ≠ .error .wait u := fun u hu => by
    rw [hu] at hends
    exact hends.1 rfl
  obtain ⟨a, v, e, rfl⟩ | ⟨e, v, e, rfl⟩ | ⟨v, e, rfl⟩ := giving_next hwait h
  · rw [e] at hends
    exact .inl ⟨a, rfl, hends⟩
  · rw [e] at hends
    exact .inr ⟨by simp [State.fails], hends.2⟩
  · rw [e] at hends
    obtain ⟨-, k, hk, hreads⟩ := hends
    have hcut : v.adds v.powerCut [] := State.adds_event (e := .powerCut) rfl (by simp)
    exact .inr ⟨by simp [State.powerCut, State.initial], k, hk, hreads.quiet hcut⟩

end InOrder

/-- Settles O14: the sampler is a sequence of reads in order. -/
theorem snapshotOrder : Obligations.SnapshotOrder := by
  unfold Obligations.SnapshotOrder
  intro s t hs h
  obtain ⟨m, hresult, hreads⟩ | ⟨hresult, k, hk, hreads⟩ := readMeasurements_readsInOrder.next hs h
  · obtain ⟨hread, htried⟩ := hreads.newEvents
    exact ⟨6, le_rfl, hread, ⟨fun _ => ⟨m, hresult⟩, fun _ => rfl⟩, htried⟩
  · obtain ⟨hread, htried⟩ := hreads.newEvents
    exact ⟨k, hk.le, hread, ⟨fun h6 => absurd hk (by simp [h6]), fun ⟨m, hm⟩ => absurd hm (hresult _)⟩, htried⟩

end Sys2Proof.Machine
end

section
/-! PROOFS. The frame of the read operations (O20). -/

namespace Sys2Proof.Machine

/-- `P` sees neither what lands in a suspension of the running agent, nor the events and the draws, nor what of the companion is no
known byte; and in `P` no read goes through a fixed dialect-1 sequence, which may write (40_transport R209). -/
structure BlindToReads (P : State → Prop) : Prop extends Undisturbed P where
  companion : ∀ {s : State} {c : Companion}, c.mem = s.comp.mem → P s → P { s with comp := c }
  dialect : ∀ {s : State}, P s → s.dialect = some .two ∨ s.par.dialect1 = .unfixed

/-- A read attempt leaves the known bytes as they are. -/
theorem answerRead_mem (c : Companion) (any : Bool) (now : Nat) (r : Byte) (n : Nat) (resp : BusResp) :
    (c.answerRead any now r n resp).2.mem = c.mem := by
  have settle_mem (res : Except Failure (List Byte)) (c : Companion) :
      (Companion.answerRead.settle any now res c).2.mem = c.mem := by
    cases res <;> rfl
  unfold Companion.answerRead
  split <;> exact settle_mem _ _

section Blind

variable {α : Type} {P : State → Prop}

theorem BlindToReads.memRead (h : BlindToReads P) (r : Byte) (n : Nat) : Runs True P (memRead r n) :=
  meets_bind runs_guardBus fun _ => meets_bind (h.draw draws_popBus) fun _ => meets_bind (h.suspend _ _) fun _ =>
    fun _ hs => h.ports (h.companion (answerRead_mem ..) hs)

theorem BlindToReads.rdreg (h : BlindToReads P) (r : Byte) (n : Nat) : Runs True P (rdreg r n) :=
  h.retryLoop (h.memRead r n) _

theorem BlindToReads.rdu8 (h : BlindToReads P) (r : Byte) : Runs True P (rdu8 r) :=
  meets_bind (h.rdreg r 1) fun _ => runs_pure _

theorem BlindToReads.rdword (h : BlindToReads P) (r : Byte) : Runs True P (rdword r) :=
  meets_bind (h.rdreg r 2) fun _ => runs_pure _

theorem BlindToReads.traffic (h : BlindToReads P) : Runs True P traffic := fun _ hs => h.companion rfl hs

theorem BlindToReads.unstatedTrace (h : BlindToReads P) (l : List Susp) : Runs True P (unstatedTrace l) := by
  induction l with
  | nil => exact runs_pure _
  | cons p rest ih => exact meets_bind (h.suspend _ _) fun _ => meets_bind h.traffic fun _ => ih

theorem BlindToReads.unfixedDialect1 (h : BlindToReads P) (r : Byte) : Runs True P (unfixedDialect1 r) :=
  meets_bind runs_guardBus fun _ => meets_bind (h.draw draws_popDialect1) fun _ => meets_bind (h.unstatedTrace _) fun _ =>
    meets_bind (h.suspend _ _) fun _ => meets_bind (h.emit _) fun _ => by
      split
      · exact meets_bind h.traffic fun _ => runs_pure _
      · exact runs_raise _

theorem rdu16_noDialect {s : State} (r : Byte) (h : s.dialect = none) : rdu16 r s = .error (.stop .emptyRegister) s := by
  unfold rdu16
  rw [Op.bind_ok (Op.get_run s), h]
  rfl

theorem BlindToReads.rdu16 (h : BlindToReads P) (r : Byte) : Runs True P (rdu16 r) := by
  intro s hs
  cases hd : s.dialect with
  | none =>
    rw [rdu16_noDialect r hd]
    trivial
  | some d =>
    cases d with
    | one =>
      have hunfixed := (h.dialect hs).resolve_left (by simp [hd])
      rw [rdu16_dialect1 hd, dialect1U16_unfixed hunfixed]
      exact h.unfixedDialect1 r s hs
    | two =>
      rw [rdu16_dialect2 hd]
      exact h.rdword r s hs

theorem BlindToReads.rdPstate (h : BlindToReads P) : Runs True P rdPstate := meets_bind (h.rdu8 _) fun _ => runs_pure _

theorem BlindToReads.readMeasurements (h : BlindToReads P) : Runs True P readMeasurements :=
  meets_bind (h.rdu16 _) fun _ => meets_bind (h.rdu16 _) fun _ => meets_bind (h.rdu16 _) fun _ =>
    meets_bind (h.rdu16 _) fun _ => meets_bind (h.rdu16 _) fun _ => meets_bind h.rdPstate fun _ => runs_pure _

theorem BlindToReads.getUsb (h : BlindToReads P) (p : Int) : Runs True P (getUsb p) :=
  meets_ite (fun _ => meets_bind (h.rdu8 _) fun _ => meets_ite (fun _ => runs_pure _) fun _ =>
    meets_ite (fun _ => runs_pure _) fun _ => runs_raise _) fun _ => runs_raise _

theorem Runs.giving {x : Op α} (h : Runs True P x) (f : α → Value) : Runs True P (giving f x) :=
  meets_bind h fun _ => runs_pure _

/-- A read operation keeps what reads do not touch. -/
theorem exec_isPureRead {i : Instr} (hi : isPureRead i = true) (h : BlindToReads P) :
    ∃ x : Op Result, (∀ s, exec i s = finish x s) ∧ Runs True P x := by
  cases i
  case rdreg | rdDevid => exact ⟨_, fun _ => rfl, (h.rdreg _ _).giving _⟩
  case rdHwver | rdFwver | rdu32 => exact ⟨_, fun _ => rfl, Runs.giving (meets_bind (h.rdreg _ _) fun _ => runs_pure _) _⟩
  case rdWdt | rdPon | rdVin | rdVscap | rdIin | rdTmcu | rdTpcb | rdDfuBw | rdu16 =>
    exact ⟨_, fun _ => rfl, (h.rdu16 _).giving _⟩
  case rdPstate => exact ⟨_, fun _ => rfl, h.rdPstate.giving _⟩
  case rdUsb0 | rdUsb1 | rdUsb2 | rdUsb3 | getUsb => exact ⟨_, fun _ => rfl, (h.getUsb _).giving _⟩
  case rdu8 => exact ⟨_, fun _ => rfl, (h.rdu8 _).giving _⟩
  case rdword => exact ⟨_, fun _ => rfl, (h.rdword _).giving _⟩
  case readMeasurements => exact ⟨_, fun _ => rfl, h.readMeasurements.giving _⟩
  all_goals simp [isPureRead] at hi

end Blind

/-- `t` is `s` but for what the ports and what lands may change, and every known byte of the companion is the same. -/
def State.readOnly (s t : State) : Prop := s.sameBlock t ∧ t.comp.mem = s.comp.mem

/-- The dialect and the open parameter are registers that a wait leaves alone (10_state R22). -/
theorem blindToReads_readOnly {s : State} (hd : s.dialect = some .two ∨ s.par.dialect1 = .unfixed) :
    BlindToReads s.readOnly where
  elapse := fun {u till l} ⟨hblock, hmem⟩ =>
    ⟨State.sameBlock_trans hblock (u.sameBlock_elapse till l), by rwa [State.elapse_comp]⟩
  ports := fun {u tr p} ⟨hblock, hmem⟩ => ⟨State.sameBlock_trans hblock (u.sameBlock_ports tr p u.comp u.result), hmem⟩
  companion := fun {u c} hc ⟨hblock, hmem⟩ =>
    ⟨State.sameBlock_trans hblock (u.sameBlock_ports u.trace u.inp c u.result), hc.trans hmem⟩
  dialect := fun {u} ⟨hblock, _⟩ => by
    obtain ⟨hframe, -⟩ := hblock
    rw [hframe]
    exact hd

/-- Settles O20: the frame of a read is kept by all that a read operation does. -/
theorem readsFrame : Obligations.ReadsFrame := by
  unfold Obligations.ReadsFrame
  intro i s t hi hd h
  obtain ⟨x, hexec, hx⟩ := exec_isPureRead hi (blindToReads_readOnly hd)
  rw [hexec] at h
  have hstart : s.readOnly s := ⟨s.sameBlock_ports s.trace s.inp s.comp s.result, rfl⟩
  obtain hcut | ⟨u, res, ⟨hblock, hmem⟩, rfl⟩ := hx.next hstart h
  · exact .inl hcut
  · exact .inr ⟨State.sameBlock_trans hblock (u.sameBlock_ports u.trace u.inp u.comp res), fun a => by rw [hmem]⟩

end Sys2Proof.Machine
end

section
/-! PROOFS. The supervisor's parts, one equation per course they can take: what ends a transaction in a known state, the final feed,
the launch, the shutdown sequence. -/

namespace Sys2Proof.Machine

section Ends

variable {α β : Type} {F : Prop} {P : State → Prop} {Q : α → State → Prop} {R : Err → State → Prop} {W : State → Prop}
  {s t u : State}

theorem Meets.of_ok {x : Op α} {a : α} (h : Meets F P x Q R W) (hs : P s) (e : x s = .ok a t) : Q a t := by
  have hend := h s hs
  rwa [e] at hend

theorem Meets.of_raise {x : Op α} {e : Err} (h : Meets F P x Q R W) (hs : P s) (he : x s = .error (.raise e) t) : R e t := by
  have hend := h s hs
  rwa [he] at hend

/-- Two states that an operation's result makes equal are equal where their results were. -/
theorem State.eq_of_result {r : Option Result} (h : { t with result := r } = { u with result := r })
    (hr : t.result = u.result) : t = u := by
  cases t
  cases u
  simp_all

/-! What a transaction leaves of the supervisor's registers. -/

/-- The registers of the power machine, of the lock and of the result that the supervisor's operations test. -/
def State.supFace (s : State) : FsmState × Bool × Option Nat × Option Agent × Agent × Option Result :=
  (s.fsm, s.step1Done, s.lastFed, s.holder, s.cur, s.result)

theorem State.supFace_eq {s t : State} (h : t.supFace = s.supFace) : t.fsm = s.fsm ∧ t.step1Done = s.step1Done ∧
    t.lastFed = s.lastFed ∧ t.holder = s.holder ∧ t.cur = s.cur ∧ t.result = s.result := by
  simpa [State.supFace] using h

theorem State.holds_of_supFace {s t : State} (h : t.supFace = s.supFace) (hs : s.holder = some s.cur) :
    t.holder = some t.cur := by
  obtain ⟨-, -, -, hholder, hcur, -⟩ := State.supFace_eq h
  rw [hholder, hs, hcur]

theorem steady_supFace (s : State) : Steady fun t => t.supFace = s.supFace := ⟨fun h l => by cases l <;> exact h, id, id⟩

/-- `x` is a transaction, or several: it leaves the supervisor's registers alone, raises transport errors only and does not wait. -/
def IsTransaction (x : Op α) : Prop := ∀ s : State, Transacts True (fun t => t.supFace = s.supFace) x

theorem onBus_supFace (s : State) : OnBus True fun t => t.supFace = s.supFace := ⟨steady_supFace s, .inl trivial⟩

theorem isTransaction_wdArm : IsTransaction wdArm := fun s => (onBus_supFace s).wdArm

theorem isTransaction_wdFeed : IsTransaction wdFeed := fun s => (onBus_supFace s).wdFeed

theorem isTransaction_requestShutdown : IsTransaction requestShutdown := fun s => (onBus_supFace s).requestShutdown

theorem isTransaction_readMeasurements : IsTransaction readMeasurements := fun s =>
  (onBus_supFace s).readMeasurements (.inl trivial)

theorem IsTransaction.ok {x : Op α} {a : α} (hx : IsTransaction x) (h : x s = .ok a t) : t.supFace = s.supFace :=
  (hx s).of_ok rfl h

theorem IsTransaction.raise {x : Op α} {e : Err} (hx : IsTransaction x) (h : x s = .error (.raise e) t) :
    t.supFace = s.supFace :=
  ((hx s).of_raise rfl h).2

theorem IsTransaction.not_wait {x : Op α} (hx : IsTransaction x) (t : State) : x s ≠ .error .wait t := by
  intro h
  have hend := hx s s rfl
  rw [h] at hend
  exact hend

/-- A transaction whose meaning is an error raised it, in the state but for the result. -/
theorem IsTransaction.of_fails {x : Op α} {f : α → Value} {e : Err} (hx : IsTransaction x)
    (h : finish (giving f x) s = .next (u.fails e)) (hu : u.result = s.result) : x s = .error (.raise e) u := by
  obtain ⟨a, v, -, hv⟩ | ⟨e', v, hraise, hv⟩ | ⟨v, -, hv⟩ := giving_next hx.not_wait h
  · simpa using congrArg State.result hv
  · have he : e = e' := by simpa using congrArg State.result hv
    subst he
    obtain ⟨-, -, -, -, -, hres⟩ := State.supFace_eq (hx.raise hraise)
    rw [hraise, State.eq_of_result hv (hu.trans hres.symm)]
  · simpa using congrArg State.result hv

/-- A transaction whose meaning is a value gave it, in the state but for the result. -/
theorem IsTransaction.of_gives {x : Op α} {f : α → Value} {a : α} (hf : Function.Injective f) (hx : IsTransaction x)
    (h : finish (giving f x) s = .next (u.gives (f a))) (hu : u.result = s.result) : x s = .ok a u := by
  obtain ⟨b, v, hok, hv⟩ | ⟨e, v, -, hv⟩ | ⟨v, -, hv⟩ := giving_next hx.not_wait h
  · have hb : f a = f b := by simpa using congrArg State.result hv
    obtain rfl := hf hb
    obtain ⟨-, -, -, -, -, hres⟩ := State.supFace_eq (hx.ok hok)
    rw [hok, State.eq_of_result hv (hu.trans hres.symm)]
  · simpa using congrArg State.result hv
  · simpa using congrArg State.result hv

end Ends

section Shutdown

variable {s t u v : State} {d : BusDraw} {now : Nat}

/-- A run of an operation of nothing, seen through another. -/
theorem finish_doing_congr {x y : Op Unit} (h : x s = y t) : finish (doing x) s = finish (doing y) t := by
  unfold finish doing
  simp only [bind, EStateM.bind, h]

/-! The final feed. -/

theorem wdFeed_writes (h : s.writes d 0x10 [0x03, 0xE8]) : wdFeed s = .ok () (s.didWrite d 0x10 [0x03, 0xE8]) :=
  wruN_writes (k := 2) (v := wdTimeoutCs) (by decide) h

theorem finalFeed_ok (h : wdFeed s = .ok () t) : finalFeed now s = .ok () { t with lastFed := some now } := by
  unfold finalFeed
  rw [Op.bind_ok (attemptTransport_ok h)]
  rfl

theorem finalFeed_raise {e : TransportError} (h : wdFeed s = .error (.raise (.transport e)) t) : finalFeed now s = .ok () t := by
  unfold finalFeed
  rw [Op.bind_ok (attemptTransport_raise h)]
  rfl

/-- From `s` the final feed at `now` leads to `t`: it succeeds and is remembered, or it fails (42_power_fsm R320, R322). -/
def State.feedsTo (s : State) (now : Nat) (d : BusDraw) (t : State) : Prop :=
  (s.writes d 0x10 [0x03, 0xE8] ∧ t = { s.didWrite d 0x10 [0x03, 0xE8] with lastFed := some now }) ∨
    ∃ e, exec .wdFeed s = .next (t.fails (.transport e)) ∧ t.result = s.result

theorem State.feedsTo.finalFeed (h : s.feedsTo now d t) : finalFeed now s = .ok () t ∧ t.step1Done = s.step1Done := by
  obtain ⟨hw, rfl⟩ | ⟨e, hx, hr⟩ := h
  · obtain ⟨-, hdone, -⟩ := State.supFace_eq (isTransaction_wdFeed.ok (wdFeed_writes hw))
    exact ⟨finalFeed_ok (wdFeed_writes hw), hdone⟩
  · have hraise := isTransaction_wdFeed.of_fails (f := fun _ => .unit) hx hr
    obtain ⟨-, hdone, -⟩ := State.supFace_eq (isTransaction_wdFeed.raise hraise)
    exact ⟨finalFeed_raise hraise, hdone⟩

/-! The launch. -/

theorem launch_settled (h : s.launchSettled) : shutdownSeq.launch s = .ok () s.launched := by
  unfold shutdownSeq.launch State.launched
  rw [Op.bind_ok (Op.get_run s)]
  by_cases hdry : s.cfg.poweroff = []
  · simp [hdry]
  · have hqueue := h.resolve_left hdry
    rw [if_neg hdry, if_neg hdry]
    cases hl : s.inp.launch with
    | nil => exact absurd hl hqueue
    | cons ok rest =>
      have hpop : popLaunch s = .ok ok { s with inp := { s.inp with launch := rest } } := by simp [popLaunch, hl]
      rw [Op.bind_ok hpop, Op.bind_ok (emit_run _ _)]
      cases ok <;> rfl

/-! The shutdown sequence. -/

/-- The request was issued: the launch alone (42_power_fsm R321, R324). -/
theorem shutdownSeq_of_done (h : s.step1Done = true) : shutdownSeq s = shutdownSeq.launch s := by
  unfold shutdownSeq
  rw [Op.bind_ok (Op.get_run s), if_pos h]

/-- The request is issued once, and its outcome does not matter (42_power_fsm R321, R325). -/
theorem shutdownSeq_of_attempt {r : Except Err Unit} (h : s.step1Done = false) (hr : attempt requestShutdown s = .ok r v) :
    shutdownSeq s = shutdownSeq.launch { v with step1Done := true } := by
  unfold shutdownSeq
  rw [Op.bind_ok (Op.get_run s), if_neg (by simp [h]), Op.bind_ok hr, Op.bind_ok (Op.modify_run _ v)]

/-- A request that host power or a fault of the model ends, ends the sequence. -/
theorem shutdownSeq_of_error {x : Exc} (h : s.step1Done = false) (hx : attempt requestShutdown s = .error x v) :
    shutdownSeq s = .error x v := by
  unfold shutdownSeq
  rw [Op.bind_ok (Op.get_run s), if_neg (by simp [h])]
  exact Op.bind_error hx

theorem requestShutdown_writes (h : s.writes d 0x30 [0x01]) : requestShutdown s = .ok () (s.didWrite d 0x30 [0x01]) :=
  wruN_writes (k := 1) (v := 1) (by decide) h

/-- Shutdown is entered: the state, the final feed, the shutdown sequence (42_power_fsm R320). -/
theorem enterShutdown_of_feed (h : finalFeed now { s with fsm := .shutdown } = .ok () t) :
    enterShutdown now s = shutdownSeq t := by
  unfold enterShutdown
  rw [Op.bind_ok (Op.modify_run _ s), Op.bind_ok h]

end Shutdown

end Sys2Proof.Machine
end

section
/-! PROOFS. The power state machine's step, state by state (O23 to O27), and the tick in Dead and on a signal (O30). -/

namespace Sys2Proof.Machine

section FsmStep

variable {s t : State} {vlim tlim : Rat} {r : Sample} {m : Snapshot} {now start : Nat}

/-! The dispatch on the state (42_power_fsm R311 to R318). -/

theorem fsmStepAt_dead (h : s.fsm = .dead) : fsmStepAt vlim tlim r now s = .ok () s := by
  unfold fsmStepAt
  rw [Op.bind_ok (Op.get_run s), h]
  rfl

theorem fsmStepAt_shutdown (h : s.fsm = .shutdown) : fsmStepAt vlim tlim r now s = shutdownSeq { s with intent := false } := by
  unfold fsmStepAt
  rw [Op.bind_ok (Op.get_run s)]
  conv_lhs => simp only [h]
  exact Op.bind_ok (Op.modify_run _ s)

theorem fsmStepAt_intent (h : s.fsm = .start ∨ s.fsm = .ok ∨ s.fsm = .blackout) (hi : s.intent = true) :
    fsmStepAt vlim tlim r now s = actOnIntent now s := by
  unfold fsmStepAt
  rw [Op.bind_ok (Op.get_run s)]
  obtain h | h | h := h <;> simp [h, hi]

theorem fsmStepAt_ok (h : s.fsm = .ok) (hi : s.intent = false) : fsmStepAt vlim tlim r now s = okStep vlim r now s := by
  unfold fsmStepAt
  rw [Op.bind_ok (Op.get_run s)]
  simp [h, hi]

theorem fsmStepAt_blackout (h : s.fsm = .blackout) (hi : s.intent = false) :
    fsmStepAt vlim tlim r now s = blackoutStep vlim tlim r now s := by
  unfold fsmStepAt
  rw [Op.bind_ok (Op.get_run s)]
  simp [h, hi]

/-! State Ok. -/

theorem okStep_low (h : scaled m.vin s.par.fsVin < vlim) :
    okStep vlim (.ok m) now s = .ok () { s with t0 := some now, fsm := .blackout } := by
  unfold okStep
  rw [Op.bind_ok (Op.get_run s)]
  simp [h]

theorem okStep_high (h : vlim ≤ scaled m.vin s.par.fsVin) : okStep vlim (.ok m) now s = .ok () s := by
  unfold okStep
  rw [Op.bind_ok (Op.get_run s)]
  simp [not_lt.mpr h]

theorem okStep_failed (e : TransportError) : okStep vlim (.err e) now s = .ok () s := rfl

/-! State Blackout. -/

theorem blackoutStep_recovered (h : vlim ≤ scaled m.vin s.par.fsVin) :
    blackoutStep vlim tlim (.ok m) now s = .ok () { s with fsm := .ok, t0 := none } := by
  unfold blackoutStep
  rw [Op.bind_ok (Op.get_run s)]
  simp [h]

/-- A low sample is measured against the time limit (42_power_fsm R314). -/
theorem blackoutStep_low (h : scaled m.vin s.par.fsVin < vlim) (ht : s.t0 = some start) :
    blackoutStep vlim tlim (.ok m) now s =
      if 1000 * tlim ≤ ((now - start : Nat) : Rat) then enterShutdown now s else .ok () s := by
  unfold blackoutStep
  rw [Op.bind_ok (Op.get_run s)]
  simp only [not_le.mpr h, ht, if_false]
  split <;> rfl

theorem blackoutStep_failed (e : TransportError) : blackoutStep vlim tlim (.err e) now s = .ok () s := rfl

/-! A shutdown intent. -/

/-- The intent is cleared and Shutdown entered with the request counted as issued (42_power_fsm R315, R320). -/
theorem actOnIntent_of_feed
    (h : finalFeed now { s with intent := false, step1Done := true, t0 := none, fsm := .shutdown } = .ok () t) :
    actOnIntent now s = shutdownSeq t := by
  unfold actOnIntent
  rw [Op.bind_ok (Op.modify_run _ s)]
  exact enterShutdown_of_feed (s := { s with intent := false, step1Done := true, t0 := none }) h

/-- From a step that is over, the meaning of FSM_STEP with the present limits. -/
theorem exec_fsmStep (h : fsmStepAt s.cfg.vlim s.cfg.tlim r now s = .ok () t) :
    exec (.fsmStep r now) s = .next (t.gives .unit) := doing_ok h

end FsmStep

/-- Settles O23: the step in Ok is `okStep`, whose three courses are the three clauses. -/
theorem fsmOk : Obligations.FsmOk := by
  unfold Obligations.FsmOk
  intro s now hfsm hintent
  have hstep {r : Sample} {t : State} (h : okStep s.cfg.vlim r now s = .ok () t) :
      exec (.fsmStep r now) s = .next (t.gives .unit) := exec_fsmStep ((fsmStepAt_ok hfsm hintent).trans h)
  exact ⟨fun m hlow => hstep (okStep_low hlow), fun m hhigh => hstep (okStep_high hhigh), fun e => hstep (okStep_failed e)⟩

/-- Settles O24: the step in Blackout is `blackoutStep`, which tests the recovery before the time. -/
theorem fsmBlackout : Obligations.FsmBlackout := by
  unfold Obligations.FsmBlackout
  intro s now start hfsm hintent ht
  have hstep {r : Sample} {t : State} (h : blackoutStep s.cfg.vlim s.cfg.tlim r now s = .ok () t) :
      exec (.fsmStep r now) s = .next (t.gives .unit) := exec_fsmStep ((fsmStepAt_blackout hfsm hintent).trans h)
  refine ⟨fun m hhigh => hstep (blackoutStep_recovered hhigh), fun m hlow htime => hstep ?_,
    fun e => hstep (blackoutStep_failed e)⟩
  rw [blackoutStep_low hlow ht, if_neg (not_le.mpr htime)]

/-- Settles O25: past the limit the step enters Shutdown, and the feed, the request and the launch follow in it. -/
theorem fsmShutdownEntry : Obligations.FsmShutdownEntry := by
  unfold Obligations.FsmShutdownEntry
  intro s s1 s2 now start m d1 d2 hfsm hintent ht hdone hlow htime hfeed hrequest hs2 hlaunch
  obtain ⟨hfed, hkept⟩ := State.feedsTo.finalFeed (s := { s with fsm := .shutdown }) hfeed
  have hseq : shutdownSeq s1 = .ok () s2.launched := by
    rw [shutdownSeq_of_attempt (hkept.trans hdone) (attempt_ok (requestShutdown_writes hrequest)), ← hs2]
    exact launch_settled hlaunch
  apply exec_fsmStep
  rw [fsmStepAt_blackout hfsm hintent, blackoutStep_low hlow ht, if_pos htime, enterShutdown_of_feed hfed, hseq]

/-- Settles O26: an intent is acted on before the sample is looked at. -/
theorem fsmIntent : Obligations.FsmIntent := by
  unfold Obligations.FsmIntent
  intro s s0 s1 r now d hfsm hintent hs0 hfeed hlaunch
  subst hs0
  obtain ⟨hfed, hkept⟩ := State.feedsTo.finalFeed hfeed
  apply exec_fsmStep
  rw [fsmStepAt_intent hfsm hintent, actOnIntent_of_feed hfed, shutdownSeq_of_done hkept, launch_settled hlaunch]

/-- Settles O27: in Dead nothing, in Shutdown the launch, and a request write of whatever outcome before it. -/
theorem shutdownSteps : Obligations.ShutdownSteps := by
  unfold Obligations.ShutdownSteps
  intro s
  refine ⟨fun r now hdead => exec_fsmStep (fsmStepAt_dead hdead), fun r now hshut hdone hlaunch => exec_fsmStep ?shutdown,
    fun hdone hlaunch => doing_ok ?launch, fun d u v hdone hv hu hlaunch => doing_ok ?request⟩
  case shutdown =>
    rw [fsmStepAt_shutdown hshut, shutdownSeq_of_done (s := { s with intent := false }) hdone]
    exact launch_settled (s := { s with intent := false }) hlaunch
  case launch => rw [shutdownSeq_of_done hdone, launch_settled hlaunch]
  case request =>
    have hattempt : ∃ r, attempt requestShutdown s = .ok r v := by
      obtain ⟨hw, rfl⟩ | ⟨e, hx, hr⟩ := hv
      · exact ⟨_, attempt_ok (requestShutdown_writes hw)⟩
      · exact ⟨_, attempt_raise (isTransaction_requestShutdown.of_fails (f := fun _ => .unit) hx hr)⟩
    obtain ⟨r, hr⟩ := hattempt
    rw [shutdownSeq_of_attempt hdone hr, ← hu, launch_settled hlaunch]

/-! The tick before `Lock()` (42_power_fsm R301). -/

section Tick

variable {s : State}

theorem tick_signal (h : s.sigCancel = true) : tick s = exitSeq 0 { s with supWake := none } := by
  unfold tick exitSeq
  rw [Op.bind_ok (Op.get_run s), Op.bind_ok (Op.modify_run _ s), if_pos h, Op.bind_ok (setSup_run _ _)]
  simp [State.beginTick, h]

theorem tick_dead (h : s.sigCancel = false) (hdead : s.fsm = .dead) :
    tick s = .ok () { s with supWake := none, pcSup := .sleeping } := by
  unfold tick
  rw [Op.bind_ok (Op.get_run s), Op.bind_ok (Op.modify_run _ s), if_neg (by simp [h]), if_pos hdead]
  simp [State.beginTick, h, hdead]

theorem tick_begins (h : s.sigCancel = false) (hdead : s.fsm ≠ .dead) :
    tick s = tickFrom s.cfg.vlim s.cfg.tlim { s with supWake := none, pcSup := .waitLock } := by
  unfold tick
  rw [Op.bind_ok (Op.get_run s), Op.bind_ok (Op.modify_run _ s), if_neg (by simp [h]), if_neg hdead]
  simp [State.beginTick, h, hdead]

end Tick

/-- Settles O30: the signal is tested before Dead, and Dead before `Lock()`. -/
theorem tickDead : Obligations.TickDead := by
  unfold Obligations.TickDead
  intro s
  exact ⟨fun hdead hsig => doing_ok (tick_dead hsig hdead), fun hsig => finish_doing_congr (tick_signal hsig),
    fun r now hdead => exec_fsmStep (fsmStepAt_dead hdead)⟩

end Sys2Proof.Machine
end

section
/-! PROOFS. What an operation keeps at every end, a cut of host power included, where the events it shows are followed too. -/

namespace Sys2Proof.Machine

/-! Events of a kind. -/

/-- What an operation of the supervisor shows outside the shutdown sequence: its writes are to the watchdog's register, and nothing
is launched (42_power_fsm R302 to R310, R331). -/
def Event.isRoutine : Event → Bool
  | .write r _ _ => r == 0x10
  | .poweroff _ _ => false
  | _ => true

/-- From `s` to `t` the trace has grown by events of `E` only. -/
def State.addsOnly (E : Event → Prop) (s t : State) : Prop := ∃ es, t.trace = s.trace ++ es ∧ ∀ e ∈ es, E e.2

section AddsOnly

variable {E : Event → Prop} {s t u : State}

theorem State.addsOnly_nil (h : t.trace = s.trace) : s.addsOnly E t := ⟨[], by simp [h], by simp⟩

theorem State.addsOnly_event {n : Nat} {e : Event} (h : t.trace = s.trace ++ [(n, e)]) (he : E e) : s.addsOnly E t :=
  ⟨_, h, by simpa using he⟩

theorem State.addsOnly.trans (h : s.addsOnly E t) (g : t.addsOnly E u) : s.addsOnly E u := by
  obtain ⟨es, he, hes⟩ := h
  obtain ⟨fs, hf, hfs⟩ := g
  exact ⟨es ++ fs, by rw [hf, he, List.append_assoc], List.forall_mem_append.mpr ⟨hes, hfs⟩⟩

theorem State.newEvents_append {es : List (Nat × Event)} (h : t.trace = s.trace ++ es) :
    s.newEvents t = es.map Prod.snd := by
  rw [State.newEvents, h, List.drop_left]

theorem State.addsOnly.newEvents (h : s.addsOnly E t) : ∀ e ∈ s.newEvents t, E e := by
  obtain ⟨es, he, hes⟩ := h
  rw [State.newEvents_append he]
  exact List.forall_mem_map.mpr hes

/-- What lands at a suspension point is a signal, a request or a reply (60_exceptions R605). -/
theorem State.lasts_addsOnly (hE : ∀ e : Event, e.isRoutine = true → E e) (s : State) : Lasts (s.addsOnly E ·) := by
  intro u v hu l
  refine hu.trans ?_
  cases l with
  | signal k => exact State.addsOnly_event (e := .signal k) rfl (hE _ rfl)
  | request w => exact State.addsOnly_event (e := .request u.nextReq w) rfl (hE _ rfl)
  | reply a r => exact State.addsOnly_event (e := .reply a r) rfl (hE _ rfl)
  | time | answer | wait | tick | nap => exact State.addsOnly_nil rfl

end AddsOnly

/-- `P` is kept by all that lands, by the draws, by what becomes of the companion, and by every event of `E`, among which are the
routine ones. -/
structure Traced (E : Event → Prop) (P : State → Prop) : Prop where
  routine : ∀ e : Event, e.isRoutine = true → E e
  lands : Lasts P
  emits : ∀ {s : State} {e : Event}, E e → P s → P (s.emit e)
  ports : ∀ {s : State} {p : Inputs} {c : Companion}, P s → P { s with inp := p, comp := c }

/-- The growth of the trace by events of `E` is such a `P`. -/
theorem State.traced_addsOnly {E : Event → Prop} (hE : ∀ e : Event, e.isRoutine = true → E e) (s : State) :
    Traced E (s.addsOnly E ·) where
  routine := hE
  lands := s.lasts_addsOnly hE
  emits := fun he hadds => hadds.trans (State.addsOnly_event rfl he)
  ports := fun hadds => hadds.trans (State.addsOnly_nil rfl)

/-- What sees no port may stand beside it. -/
theorem Traced.and {E : Event → Prop} {P C : State → Prop} (hP : Traced E P) (hC : Steady C) : Traced E fun t => P t ∧ C t where
  routine := hP.routine
  lands := Lasts.and hP.lands hC.lands
  emits := fun he ⟨hp, hc⟩ => ⟨hP.emits he hp, hC.ports hc⟩
  ports := fun ⟨hp, hc⟩ => ⟨hP.ports hp, hC.ports hc⟩

/-- What sees no port keeps the company of every event. -/
theorem Steady.traced_any {P : State → Prop} (hP : Steady P) : Traced (fun _ => True) P :=
  ⟨fun _ _ => trivial, hP.lands, fun _ hs => hP.ports hs, fun hs => hP.ports hs⟩

section Keeping

variable {α β : Type} {E : Event → Prop} {P : State → Prop} {s t : State}

/-! Rules at one state. -/

theorem leaves_congr {x y : Op α} (h : x s = y t) : leaves x s = leaves y t := by
  unfold leaves
  rw [h]

@[simp] theorem leaves_attempt (x : Op α) (s : State) : leaves (attempt x) s = leaves x s := by
  obtain ⟨a, t, h, ha⟩ | ⟨e, t, h, ha⟩ | ⟨e, t, h, -, ha⟩ := attempt_cases x s
  · rw [leaves_ok h, leaves_ok ha]
  · rw [leaves_error h, leaves_ok ha]
  · rw [leaves_error h, leaves_error ha]

/-- A sequence keeps `P` from a state where its first operation does. -/
theorem keeps_bind_at {x : Op α} {f : α → Op β} (hx : P (leaves x s)) (hf : ∀ a, Keeps P (f a)) : P (leaves (x >>= f) s) := by
  cases h : x s with
  | ok a t =>
    rw [leaves_ok h] at hx
    rw [leaves_congr (Op.bind_ok h)]
    exact hf a t hx
  | error e t =>
    rw [leaves_error h] at hx
    rwa [leaves_error (Op.bind_error h)]

theorem keeps_modify_of {f : State → State} (h : ∀ s, P s → P (f s)) : Keeps P (modify f) := h

theorem Draws.keeps {x : Op α} (hx : Draws x) (h : ∀ {s : State} {p : Inputs}, P s → P { s with inp := p }) : Keeps P x := by
  intro s hs
  obtain ⟨a, p, e⟩ := hx s
  rw [leaves_ok e]
  exact h hs

theorem keeps_guardBus : Keeps P guardBus := keeps_of_leaves_eq fun s => by
  obtain h | ⟨f, h⟩ := guardBus_ok_or_stop s
  · exact leaves_ok h
  · exact leaves_error h

/-- What an operation's outcome is made of: the state it left, with a result or cut. -/
theorem finish_next_leaves {x : Op Unit} (h : finish (doing x) s = .next t) :
    (∃ r, t = { leaves x s with result := r }) ∨ t = (leaves x s).powerCut := by
  have hdoing : leaves (doing x) s = leaves x s := by
    unfold doing
    cases hx : x s with
    | ok a u => rw [leaves_congr (Op.bind_ok hx), leaves_ok hx]; rfl
    | error e u => rw [leaves_error (Op.bind_error hx), leaves_error hx]
  rw [← hdoing]
  obtain ⟨r, u, hx, rfl⟩ | ⟨e, u, hx, rfl⟩ | hx | ⟨u, hx, rfl⟩ := finish_next h
  · exact .inl ⟨_, by rw [leaves_ok hx]⟩
  · exact .inl ⟨_, by rw [leaves_error hx]; rfl⟩
  · exact .inl ⟨t.result, by rw [leaves_error hx]⟩
  · exact .inr (by rw [leaves_error hx])

/-! Transactions. -/

theorem Traced.suspend (h : Traced E P) (ms : Nat) (p : Susp) : Keeps P (suspend ms p) := by
  intro s hs
  obtain ⟨till, -, -, e⟩ | e := suspend_cases ms p s
  · rw [leaves_error e]
    exact Lasts.elapse h.lands hs _ _
  · rw [leaves_ok e]
    exact Lasts.elapse h.lands hs _ _

theorem Traced.draw (h : Traced E P) {x : Op α} (hx : Draws x) : Keeps P x := hx.keeps fun hs => h.ports hs

theorem Traced.emit (h : Traced E P) {e : Event} (he : E e) : Keeps P (emit e) := fun _ hs => h.emits he hs

theorem Traced.sleep (h : Traced E P) (ms : Nat) : Keeps P (sleep ms) :=
  keeps_bind (h.emit (h.routine _ rfl)) fun _ => keeps_bind (h.draw draws_popSleep) fun _ => h.suspend _ _

/-- A write attempt in flight at a cut of host power is lost (log 13). -/
theorem Traced.onCut_lostWrite (h : Traced E P) {x : Op α} (hx : Keeps P x) (r : Byte) (data : List Byte) :
    Keeps P (onCut (State.lostWrite · r data) x) := by
  intro s hs
  have hleft := hx s hs
  cases hrun : x s with
  | ok a t =>
    rw [leaves_ok hrun] at hleft
    rwa [leaves_ok (onCut_ok hrun)]
  | error e t =>
    rw [leaves_error hrun] at hleft
    cases e with
    | cut =>
      rw [leaves_error (onCut_cut hrun)]
      exact h.ports (p := t.inp) hleft
    | raise | wait | stop => simpa [leaves, onCut, hrun] using hleft

theorem Traced.memRead (h : Traced E P) (r : Byte) (n : Nat) : Keeps P (memRead r n) :=
  keeps_bind keeps_guardBus fun _ => keeps_bind (h.draw draws_popBus) fun _ => keeps_bind (h.suspend _ _) fun _ =>
    keeps_get_bind fun s hs => h.emits (s := { s with comp := _ }) (h.routine (.read r n _) rfl) (h.ports hs)

theorem Traced.memWrite (h : Traced E P) {r : Byte} {data : List Byte} (he : ∀ res, E (.write r data res)) :
    Keeps P (memWrite r data) :=
  keeps_bind keeps_guardBus fun _ => keeps_bind (h.draw draws_popBus) fun _ =>
    keeps_bind (h.onCut_lostWrite (h.suspend _ _) r data) fun _ =>
      keeps_get_bind fun s hs => h.emits (s := { s with comp := _ }) (he _) (h.ports hs)

theorem Traced.retryLoop (h : Traced E P) {t : Op (Except Failure α)} (ht : Keeps P t) (k : Nat) :
    Keeps P (retryLoop t k) := by
  induction k with
  | zero =>
    refine keeps_bind ht fun r => ?_
    split
    · exact keeps_pure _
    · exact keeps_ite (keeps_raise _) (keeps_raise _)
  | succ k ih =>
    refine keeps_bind ht fun r => ?_
    split
    · exact keeps_pure _
    · exact keeps_ite (keeps_raise _) (keeps_bind (h.sleep _) fun _ => ih)

theorem Traced.rdreg (h : Traced E P) (r : Byte) (n : Nat) : Keeps P (rdreg r n) := h.retryLoop (h.memRead r n) _

theorem Traced.wrreg (h : Traced E P) {r : Byte} {data : List Byte} (he : ∀ res, E (.write r data res)) :
    Keeps P (wrreg r data) := h.retryLoop (h.memWrite he) _

/-- A typed write. -/
theorem Traced.wruN (h : Traced E P) {k v : Nat} {r : Byte} (he : ∀ data res, E (.write r data res)) : Keeps P (wruN k r v) :=
  keeps_ite (h.wrreg (he _)) (keeps_stop _)

/-- The writes to the watchdog's register are routine (41_register_ops R258 to R260). -/
theorem Traced.watchdog (h : Traced E P) (v : Nat) : Keeps P (wru16 0x10 v) := h.wruN fun _ _ => h.routine _ rfl

/-! Reads in both dialects. -/

theorem Traced.unstatedTrace (h : Traced E P) (l : List Susp) : Keeps P (unstatedTrace l) := by
  induction l with
  | nil => exact keeps_pure _
  | cons p rest ih =>
    exact keeps_bind (h.suspend _ _) fun _ => keeps_bind (keeps_modify_of fun _ hs => h.ports hs) fun _ => ih

theorem Traced.unfixedDialect1 (h : Traced E P) (r : Byte) : Keeps P (unfixedDialect1 r) :=
  keeps_bind keeps_guardBus fun _ => keeps_bind (h.draw draws_popDialect1) fun _ => keeps_bind (h.unstatedTrace _) fun _ =>
    keeps_bind (h.suspend _ _) fun _ => keeps_bind (h.emit (h.routine _ rfl)) fun _ => by
      split
      · exact keeps_bind (keeps_modify_of fun _ hs => h.ports hs) fun _ => keeps_pure _
      · exact keeps_raise _

/-- A fixed dialect-1 sequence may write to any register (40_transport R209). -/
theorem Traced.runDialect1 (h : Traced E P) (hE : ∀ e, E e) (l : List Dialect1Txn) : Keeps P (runDialect1 l) := by
  induction l with
  | nil => exact keeps_pure _
  | cons x rest ih =>
    cases x with
    | read r n => exact keeps_bind (h.rdreg _ _) fun _ => keeps_bind ih fun _ => keeps_pure _
    | write r data => exact keeps_bind (h.wrreg fun _ => hE _) fun _ => ih

theorem Traced.dialect1U16 (h : Traced E P) (hE : ∀ e, E e) (r : Byte) : Keeps P (dialect1U16 r) := by
  refine keeps_bind keeps_get fun s => ?_
  split
  · exact h.unfixedDialect1 r
  · split
    · refine keeps_bind (h.runDialect1 hE _) fun _ => ?_
      split
      · exact keeps_pure _
      · exact h.unfixedDialect1 r
    · exact h.unfixedDialect1 r

/-- `E` admits every event, or in `P` no read goes through a fixed dialect-1 sequence. -/
def ReadsFreely (E : Event → Prop) (P : State → Prop) : Prop :=
  (∀ e, E e) ∨ ∀ s, P s → s.dialect = some .two ∨ s.par.dialect1 = .unfixed

theorem Traced.rdu16 (h : Traced E P) (hr : ReadsFreely E P) (r : Byte) : Keeps P (rdu16 r) := by
  intro s hs
  cases hd : s.dialect with
  | none => rwa [leaves_error (rdu16_noDialect r hd)]
  | some d =>
    cases d with
    | one =>
      rw [leaves_congr (rdu16_dialect1 hd)]
      obtain hE | hfree := hr
      · exact h.dialect1U16 hE r s hs
      · have hunfixed := (hfree s hs).resolve_left (by simp [hd])
        rw [leaves_congr (dialect1U16_unfixed hunfixed)]
        exact h.unfixedDialect1 r s hs
    | two =>
      rw [leaves_congr (rdu16_dialect2 hd)]
      exact keeps_bind (h.rdreg r 2) (fun _ => keeps_pure _) s hs

theorem Traced.readMeasurements (h : Traced E P) (hr : ReadsFreely E P) : Keeps P readMeasurements :=
  keeps_bind (h.rdu16 hr _) fun _ => keeps_bind (h.rdu16 hr _) fun _ => keeps_bind (h.rdu16 hr _) fun _ =>
    keeps_bind (h.rdu16 hr _) fun _ => keeps_bind (h.rdu16 hr _) fun _ =>
      keeps_bind (keeps_bind (keeps_bind (h.rdreg _ _) fun _ => keeps_pure _) fun _ => keeps_pure _) fun _ => keeps_pure _

end Keeping

end Sys2Proof.Machine
end

section
/-! PROOFS. What a tick keeps at every end: its timestamps are its own time (O34), and once the shutdown request was issued it is not
written again, nor anything launched after Dead (O29). -/

namespace Sys2Proof.Machine

/-- `P` is kept by every update of the power machine at time `now`, and either the shutdown request is an event `P` follows, or it
was issued (42_power_fsm R310 to R325). -/
structure StepsAt (E : Event → Prop) (now : Nat) (P : State → Prop) : Prop extends Traced E P where
  fed : ∀ {s : State}, P s → P { s with lastFed := some now }
  power : ∀ {s : State} {f : FsmState} {t0 : Option Nat} {done intent : Bool} {err : Option Err},
    t0 = s.t0 ∨ t0 = none ∨ t0 = some now → done = s.step1Done ∨ done = true → P s →
      P { s with fsm := f, t0 := t0, step1Done := done, intent := intent, supErr := err }
  request : (∀ data res, E (.write 0x30 data res)) ∨ ∀ s, P s → s.step1Done = true
  launch : ∀ c ok, E (.poweroff c ok)

/-- `P` is kept by all that a tick at time `now` writes beside the power machine: the sample, the feed, the lock, the control points,
the exit (42_power_fsm R301 to R305, R331). -/
structure OverseesAt (E : Event → Prop) (now : Nat) (P : State → Prop) : Prop extends Traced E P where
  fed : ∀ {s : State}, P s → P { s with lastFed := some now }
  reads : ReadsFreely E P
  regs : ∀ {s : State} {holder : Option Agent} {ws : List Waiter} {m : Option Snapshot} {code : Option (Fin 3)} {p : SupPoint}
    {wake : Option Nat},
    P s → P { s with holder := holder, waiters := ws, measLast := m, exitCode := code, pcSup := p, supWake := wake }

section Keeping

variable {E : Event → Prop} {now : Nat} {P : State → Prop} {s t : State}

theorem keeps_endTickIfFatal (e : TransportError) : Keeps P (endTickIfFatal e) :=
  keeps_bind keeps_get fun _ => keeps_ite (keeps_raise _) (keeps_pure _)

/-! The power machine. -/

/-- The updates that leave the start time and the request alone. -/
theorem StepsAt.moves (h : StepsAt E now P) {f : FsmState} {intent : Bool} {err : Option Err} (hs : P s) :
    P { s with fsm := f, intent := intent, supErr := err } := h.power (.inl rfl) (.inl rfl) hs

theorem StepsAt.startStep (h : StepsAt E now P) : Keeps P (startStep now) :=
  keeps_bind (keeps_attemptTransport (h.watchdog wdTimeoutCs)) fun r => by
    split
    · exact keeps_modify_of fun _ hs => h.moves (h.fed hs)
    · exact keeps_endTickIfFatal _

theorem StepsAt.launch_keeps (h : StepsAt E now P) : Keeps P shutdownSeq.launch :=
  keeps_bind keeps_get fun _ => keeps_ite (keeps_modify_of fun _ hs => h.moves hs)
    (keeps_bind (h.draw draws_popLaunch) fun _ => keeps_bind (h.emit (h.launch _ _)) fun _ =>
      keeps_ite (keeps_modify_of fun _ hs => h.moves hs) (keeps_modify_of fun _ hs => h.moves hs))

theorem StepsAt.shutdownSeq (h : StepsAt E now P) : Keeps P shutdownSeq := by
  intro s hs
  cases hd : s.step1Done with
  | true =>
    rw [leaves_congr (shutdownSeq_of_done hd)]
    exact h.launch_keeps s hs
  | false =>
    have hrequest := h.request.resolve_right fun hdone => by simp [hdone s hs] at hd
    unfold Machine.shutdownSeq
    rw [leaves_congr (Op.bind_ok (Op.get_run s)), if_neg (by simp [hd])]
    have hwrite : Keeps P requestShutdown := h.wruN (k := 1) (v := 1) hrequest
    exact keeps_bind (keeps_attempt hwrite) (fun _ =>
      keeps_bind (keeps_modify_of fun _ hs => h.power (.inl rfl) (.inr rfl) hs) fun _ => h.launch_keeps) s hs

theorem StepsAt.finalFeed (h : StepsAt E now P) : Keeps P (finalFeed now) :=
  keeps_bind (keeps_attemptTransport (h.watchdog wdTimeoutCs)) fun r => by
    split
    · exact keeps_modify_of fun _ hs => h.fed hs
    · exact keeps_pure _

theorem StepsAt.enterShutdown (h : StepsAt E now P) : Keeps P (enterShutdown now) :=
  keeps_bind (keeps_modify_of fun _ hs => h.moves hs) fun _ =>
    keeps_bind h.finalFeed fun _ => h.shutdownSeq

theorem StepsAt.actOnIntent (h : StepsAt E now P) : Keeps P (actOnIntent now) :=
  keeps_bind (keeps_modify_of fun _ hs => h.power (.inr (.inl rfl)) (.inr rfl) hs) fun _ => h.enterShutdown

theorem StepsAt.okStep (h : StepsAt E now P) (vlim : Rat) (r : Sample) : Keeps P (okStep vlim r now) :=
  keeps_bind keeps_get fun _ => by
    split
    · exact keeps_ite (keeps_modify_of fun _ hs => h.power (.inr (.inr rfl)) (.inl rfl) hs) (keeps_pure _)
    · exact keeps_pure _

theorem StepsAt.blackoutStep (h : StepsAt E now P) (vlim tlim : Rat) (r : Sample) : Keeps P (blackoutStep vlim tlim r now) :=
  keeps_bind keeps_get fun _ => by
    split
    · refine keeps_ite (keeps_modify_of fun _ hs => h.power (.inr (.inl rfl)) (.inl rfl) hs) ?_
      split
      · exact keeps_stop _
      · exact keeps_ite h.enterShutdown (keeps_pure _)
    · exact keeps_pure _

theorem StepsAt.fsmStepAt (h : StepsAt E now P) (vlim tlim : Rat) (r : Sample) : Keeps P (fsmStepAt vlim tlim r now) :=
  keeps_bind keeps_get fun s => by
    split
    · exact keeps_pure _
    · exact keeps_bind (keeps_modify_of fun _ hs => h.moves hs) fun _ => h.shutdownSeq
    · exact keeps_ite h.actOnIntent (keeps_pure _)
    · exact keeps_ite h.actOnIntent (h.okStep vlim r)
    · exact keeps_ite h.actOnIntent (h.blackoutStep vlim tlim r)

/-! The rest of a tick. -/

theorem OverseesAt.setSup (h : OverseesAt E now P) (p : SupPoint) : Keeps P (setSup p) := keeps_modify_of fun _ hs => h.regs hs

theorem OverseesAt.takeSampleOp (h : OverseesAt E now P) : Keeps P takeSampleOp :=
  keeps_bind (keeps_attemptTransport (h.readMeasurements h.reads)) fun r => by
    split
    · exact keeps_bind (keeps_modify_of fun _ hs => h.regs hs) fun _ => keeps_pure _
    · exact keeps_bind (keeps_endTickIfFatal _) fun _ => keeps_pure _

theorem OverseesAt.feedIfDue (h : OverseesAt E now P) : Keeps P (feedIfDue now) :=
  keeps_bind keeps_get fun _ => keeps_ite
    (keeps_bind (keeps_attemptTransport (h.watchdog wdTimeoutCs)) fun r => by
      split
      · exact keeps_modify_of fun _ hs => h.fed hs
      · exact keeps_endTickIfFatal _) (keeps_pure _)

theorem OverseesAt.takeLock (h : OverseesAt E now P) (hs : P s) : P s.takeLock :=
  h.regs (s := s.emit _) (h.emits (h.routine (.lock s.cur) rfl) hs)

theorem OverseesAt.acquire (h : OverseesAt E now P) (k : Hold) : Keeps P (acquire k) := by
  intro s hs
  obtain ⟨-, e⟩ | ⟨a, -, -, e⟩ | ⟨-, e⟩ := acquire_cases k s
  · rw [leaves_ok e]
    exact h.takeLock hs
  · rw [leaves_error e]
    exact h.regs hs
  · rwa [leaves_error e]

theorem OverseesAt.unlock (h : OverseesAt E now P) : Keeps P unlock := by
  intro s hs
  by_cases hh : s.holder = some s.cur
  · rw [leaves_ok (unlock_holder hh)]
    exact h.regs (s := s.emit _) (h.emits (h.routine (.unlock s.cur) rfl) hs)
  · rwa [leaves_error (unlock_other hh)]

theorem OverseesAt.exitSeq (h : OverseesAt E now P) (code : Fin 3) : Keeps P (exitSeq code) :=
  keeps_bind (h.setSup _) fun _ => keeps_bind (h.acquire _) fun _ => keeps_bind (keeps_attempt (h.watchdog 0)) fun _ =>
    keeps_bind h.unlock fun _ =>
      keeps_modify_of fun s hs => h.regs (s := s.emit _) (h.emits (h.routine (.exit code) rfl) hs)

/-- What a tick from `Lock()` on keeps, where the arm in Start and the state step keep it (42_power_fsm R301). -/
theorem OverseesAt.tickFrom {s : State} (h : OverseesAt E s.now P)
    (hstart : ∀ u, P u → u.fsm = .start → P (leaves (startStep s.now) u))
    (hstep : ∀ vlim tlim r, Keeps P (fsmStepAt vlim tlim r s.now)) (vlim tlim : Rat) (hs : P s) :
    P (leaves (tickFrom vlim tlim) s) := by
  have hbody : P (leaves (tickBody vlim tlim) s.takeLock) := by
    unfold tickBody
    rw [leaves_congr (Op.bind_ok (clock_run _)), leaves_congr (Op.bind_ok (Op.get_run _))]
    split
    · next hc => exact hstart _ (h.takeLock hs) hc.1
    · exact keeps_bind (h.setSup _) (fun _ => keeps_bind h.takeSampleOp fun _ => keeps_bind (h.setSup _) fun _ =>
        keeps_bind h.feedIfDue fun _ => keeps_bind (h.setSup _) fun _ => hstep _ _ _) _ (h.takeLock hs)
  unfold Machine.tickFrom
  obtain ⟨-, e⟩ | ⟨a, -, -, e⟩ | ⟨-, e⟩ := acquire_cases (.tick vlim tlim) s
  · rw [leaves_congr (Op.bind_ok e)]
    refine keeps_bind_at (by rwa [leaves_attempt]) fun r => keeps_bind h.unlock fun _ => ?_
    split
    · exact h.setSup _
    · exact h.exitSeq 1
  · rw [leaves_error (Op.bind_error e)]
    exact h.regs hs
  · rwa [leaves_error (Op.bind_error e)]

/-- What a tick keeps. -/
theorem OverseesAt.tick {s : State} (h : OverseesAt E s.now P)
    (hstart : ∀ u, P u → u.fsm = .start → P (leaves (startStep s.now) u))
    (hstep : ∀ vlim tlim r, Keeps P (fsmStepAt vlim tlim r s.now)) (hs : P s) : P (leaves tick s) := by
  cases hsig : s.sigCancel with
  | true =>
    rw [leaves_congr (tick_signal hsig)]
    exact h.exitSeq 0 _ (h.regs hs)
  | false =>
    by_cases hdead : s.fsm = .dead
    · rw [leaves_ok (tick_dead hsig hdead)]
      exact h.regs hs
    · rw [leaves_congr (tick_begins hsig hdead)]
      exact OverseesAt.tickFrom (s := { s with supWake := none, pcSup := .waitLock }) h hstart hstep _ _ (h.regs hs)

/-- A tick that begins, or one that goes on from `Lock()`, ends in what it keeps, but for the result, or host power was cut then. -/
theorem OverseesAt.next {s : State} (h : OverseesAt E s.now P)
    (hstart : ∀ u, P u → u.fsm = .start → P (leaves (startStep s.now) u))
    (hstep : ∀ vlim tlim r, Keeps P (fsmStepAt vlim tlim r s.now)) (hs : P s)
    (hn : exec .tick s = .next t ∨ ∃ v l, finish (resume (.tick v l)) s = .next t) :
    ∃ u, P u ∧ ((∃ r, t = { u with result := r }) ∨ t = u.powerCut) := by
  obtain hn | ⟨v, l, hn⟩ := hn
  · exact ⟨_, h.tick hstart hstep hs, finish_next_leaves hn⟩
  · exact ⟨_, h.tickFrom hstart hstep v l hs, finish_next_leaves hn⟩

end Keeping

/-! Timestamps (42_power_fsm R302). -/

/-- From `s` to `t` the timestamps are as they were, cleared, or the time of `s`. -/
def State.stampedAt (s t : State) : Prop :=
  (t.lastFed = s.lastFed ∨ t.lastFed = some s.now) ∧ (t.t0 = s.t0 ∨ t.t0 = none ∨ t.t0 = some s.now)

theorem steady_stampedAt (s : State) : Steady (s.stampedAt ·) := ⟨fun h l => by cases l <;> exact h, id, id⟩

theorem stepsAt_stampedAt (s : State) : StepsAt (fun _ => True) s.now (s.stampedAt ·) where
  toTraced := (steady_stampedAt s).traced_any
  fed := fun ⟨_, ht⟩ => ⟨.inr rfl, ht⟩
  power := fun ht0 _ ⟨hf, ht⟩ => ⟨hf, ht0.elim (fun h => by rwa [← h] at ht) .inr⟩
  request := .inl fun _ _ => trivial
  launch := fun _ _ => trivial

theorem overseesAt_stampedAt (s : State) : OverseesAt (fun _ => True) s.now (s.stampedAt ·) where
  toTraced := (steady_stampedAt s).traced_any
  fed := (stepsAt_stampedAt s).fed
  reads := .inl fun _ => trivial
  regs := id

/-- Settles O34: whatever a tick waits for, it writes only the time it read as it took the lock. -/
theorem tickTimes : Obligations.TickTimes := by
  unfold Obligations.TickTimes
  intro s t h
  obtain ⟨u, hu, ⟨r, rfl⟩ | rfl⟩ := (overseesAt_stampedAt s).next (fun u hu _ => (stepsAt_stampedAt s).startStep u hu)
    (fun v l r => (stepsAt_stampedAt s).fsmStepAt v l r) ⟨.inl rfl, .inl rfl⟩ h
  · exact .inr hu
  · exact .inl ⟨u, rfl⟩

/-! The shutdown request, issued once (42_power_fsm R324). -/

/-- The request was issued, and no read goes through a fixed dialect-1 sequence. -/
def State.requested (t : State) : Prop := t.step1Done = true ∧ (t.dialect = some .two ∨ t.par.dialect1 = .unfixed)

theorem steady_requested : Steady State.requested := ⟨fun h l => by cases l <;> exact h, id, id⟩

/-- From `s` to `t` no write to 0x30 was attempted, and the request stays issued. -/
def State.noRequest (s t : State) : Prop := s.addsOnly (fun e => e.isWriteTo 0x30 = false) t ∧ t.requested

theorem isWriteTo_request_of_routine (e : Event) (h : e.isRoutine = true) : e.isWriteTo 0x30 = false := by
  cases e with
  | write r data res =>
    have hr : r = 0x10 := by simpa [Event.isRoutine] using h
    subst hr
    rfl
  | _ => rfl

theorem stepsAt_noRequest (s : State) (now : Nat) : StepsAt (fun e => e.isWriteTo 0x30 = false) now (s.noRequest ·) where
  toTraced := (s.traced_addsOnly isWriteTo_request_of_routine).and steady_requested
  fed := id
  power := fun _ hdone ⟨hadds, h, hd⟩ => ⟨hadds, hdone.elim (·.trans h) id, hd⟩
  request := .inr fun _ ⟨_, hdone, _⟩ => hdone
  launch := fun _ _ => rfl

theorem overseesAt_noRequest (s : State) (now : Nat) : OverseesAt (fun e => e.isWriteTo 0x30 = false) now (s.noRequest ·) where
  toTraced := (s.traced_addsOnly isWriteTo_request_of_routine).and steady_requested
  fed := id
  reads := .inr fun _ ⟨_, _, hd⟩ => hd
  regs := id

/-! Dead is the end (42_power_fsm R316, R342). -/

/-- From `s` to `t` nothing was launched, and the power machine is in Dead. -/
def State.stillDead (s t : State) : Prop := s.addsOnly (fun e => e.isLaunch = false) t ∧ t.fsm = .dead ∧ t.requested

theorem steady_dead : Steady fun t => t.fsm = .dead ∧ t.requested := ⟨fun h l => by cases l <;> exact h, id, id⟩

theorem isLaunch_of_routine (e : Event) (h : e.isRoutine = true) : e.isLaunch = false := by
  cases e with
  | poweroff => simp [Event.isRoutine] at h
  | _ => rfl

theorem overseesAt_stillDead (s : State) (now : Nat) : OverseesAt (fun e => e.isLaunch = false) now (s.stillDead ·) where
  toTraced := (s.traced_addsOnly isLaunch_of_routine).and steady_dead
  fed := id
  reads := .inr fun _ ⟨_, _, _, hd⟩ => hd
  regs := id

theorem State.addsOnly_powerCut {E : Event → Prop} (hE : ∀ e : Event, e.isRoutine = true → E e) {s u : State}
    (h : s.addsOnly E u) : s.addsOnly E u.powerCut :=
  h.trans (State.addsOnly_event (e := .powerCut) rfl (hE _ rfl))

/-- Of a tick from Dead (42_power_fsm R316). -/
theorem tick_from_dead {s t : State} (hdead : s.fsm = .dead) (hs : s.requested)
    (hn : exec .tick s = .next t ∨ ∃ v l, finish (resume (.tick v l)) s = .next t) :
    (∀ e ∈ s.newEvents t, e.isLaunch = false) ∧ (t.wasCut ∨ t.fsm = .dead) := by
  obtain ⟨u, ⟨hadds, hu, -⟩, ⟨r, rfl⟩ | rfl⟩ := (overseesAt_stillDead s s.now).next
    (fun u ⟨_, hu, _⟩ hstart => by simp [hu] at hstart)
    (fun v l r u ⟨hadds, hu, hr⟩ => by rw [leaves_ok (fsmStepAt_dead hu)]; exact ⟨hadds, hu, hr⟩)
    ⟨State.addsOnly_nil rfl, hdead, hs⟩ hn
  · exact ⟨hadds.newEvents, .inr hu⟩
  · exact ⟨(State.addsOnly_powerCut isLaunch_of_routine hadds).newEvents, .inl ⟨u, rfl⟩⟩

/-- Settles O29: every operation of the supervisor keeps the request issued without a write to 0x30, and a tick keeps Dead. -/
theorem shutdownOnce : Obligations.ShutdownOnce := by
  unfold Obligations.ShutdownOnce
  intro s t i r now hi hd hdone h
  have hs : s.noRequest s := ⟨State.addsOnly_nil rfl, hdone, hd⟩
  have hticks (hn : exec .tick s = .next t ∨ ∃ v l, finish (resume (.tick v l)) s = .next t) :=
    (overseesAt_noRequest s s.now).next (fun u hu _ => (stepsAt_noRequest s s.now).startStep u hu)
      (fun v l r => (stepsAt_noRequest s s.now).fsmStepAt v l r) hs hn
  have hends : ∃ u, s.noRequest u ∧ ((∃ r, t = { u with result := r }) ∨ t = u.powerCut) := by
    obtain h | ⟨-, h⟩ := h
    · obtain rfl | rfl | rfl := hi
      · exact hticks (.inl h)
      · exact ⟨_, (stepsAt_noRequest s now).fsmStepAt _ _ _ s hs, finish_next_leaves h⟩
      · exact ⟨_, (stepsAt_noRequest s now).shutdownSeq s hs, finish_next_leaves h⟩
    · exact hticks (.inr h)
  obtain ⟨u, ⟨hadds, hu, -⟩, hend⟩ := hends
  refine ⟨?events, ?kept, fun htick hdead => tick_from_dead hdead ⟨hdone, hd⟩ (h.imp (fun h => htick ▸ h) And.right)⟩
  case events =>
    obtain ⟨r, rfl⟩ | rfl := hend
    · exact hadds.newEvents
    · exact (State.addsOnly_powerCut isWriteTo_request_of_routine hadds).newEvents
  case kept =>
    obtain ⟨r, rfl⟩ | rfl := hend
    · exact .inr hu
    · exact .inl ⟨u, rfl⟩

end Sys2Proof.Machine
end

section
/-! PROOFS. The tick followed part by part: the arm, the sample, the feed, the state step, under one hold (O31, O32, O33). -/

namespace Sys2Proof.Machine

section Parts

variable {s s1 t u v : State} {d : BusDraw} {e : TransportError} {r : Sample} {m : Snapshot} {now : Nat} {vlim tlim : Rat}

/-! A transport error of the supervisor (42_power_fsm R322, R333). -/

theorem endTickIfFatal_passes (h : transportFatal e = false ∨ exitsOnFatal s.fsm = false) : endTickIfFatal e s = .ok () s := by
  unfold endTickIfFatal
  rw [Op.bind_ok (Op.get_run s), if_neg (by simpa using fun hf => h.resolve_left (by simp [hf]))]
  rfl

theorem endTickIfFatal_raises (h : transportFatal e = true) (hs : exitsOnFatal s.fsm = true) :
    endTickIfFatal e s = .error (.raise (.transport e)) s := by
  unfold endTickIfFatal
  rw [Op.bind_ok (Op.get_run s), if_pos (by simp [h, hs])]
  rfl

/-- A transaction whose meaning is a transport error, tried. -/
theorem IsTransaction.tried {α : Type} {x : Op α} {f : α → Value} (hx : IsTransaction x)
    (h : finish (giving f x) s = .next (u.fails (.transport e))) (hu : u.result = s.result) :
    attemptTransport x s = .ok (.error e) u ∧ u.supFace = s.supFace := by
  have hraise := hx.of_fails h hu
  exact ⟨attemptTransport_raise hraise, hx.raise hraise⟩

theorem wruN_fatal {k n : Nat} {reg : Byte} {f : Failure} (hn : n < 256 ^ k) (h : s.awaits d)
    (ha : (s.writeAnswer d reg (beN k n)).1 = .error f) (hf : failureFatal f = true) :
    wruN k reg n s = .error (.raise (.transport (.single f))) (s.didWrite d reg (beN k n)) := by
  unfold wruN
  rw [if_pos hn]
  exact retryLoop_fatal (by rw [memWrite_awaits h, ha]) hf _

/-! The arm (42_power_fsm R310). -/

theorem startStep_writes (h : s.writes d 0x10 [0x03, 0xE8]) :
    startStep now s = .ok () { s.didWrite d 0x10 [0x03, 0xE8] with lastFed := some now, fsm := .ok } := by
  have harm : wdArm s = .ok () (s.didWrite d 0x10 [0x03, 0xE8]) := wdFeed_writes h
  unfold startStep
  rw [Op.bind_ok (attemptTransport_ok harm)]
  rfl

/-- An arm that failed ends the step as its error says. -/
theorem startStep_fails (h : attemptTransport wdArm s = .ok (.error e) u) : startStep now s = endTickIfFatal e u := by
  unfold startStep
  rw [Op.bind_ok h]

/-! The sample (42_power_fsm R303). -/

/-- A sample that failed ends the tick or is the tick's sample, as its error says. -/
theorem takeSampleOp_fails (h : attemptTransport readMeasurements s = .ok (.error e) u) :
    takeSampleOp s = (endTickIfFatal e >>= fun _ => pure (.err e)) u := by
  unfold takeSampleOp
  rw [Op.bind_ok h]

theorem takeSampleOp_of_gives (h : exec .readMeasurements s = .next (v.gives (.snapshot m))) (hv : v.result = s.result) :
    takeSampleOp s = .ok (.ok m) { v with measLast := some m } ∧ v.supFace = s.supFace := by
  have hok := isTransaction_readMeasurements.of_gives (fun _ _ => Value.snapshot.inj) h hv
  refine ⟨?_, isTransaction_readMeasurements.ok hok⟩
  unfold takeSampleOp
  rw [Op.bind_ok (attemptTransport_ok hok)]
  rfl

theorem takeSampleOp_of_fails (h : exec .readMeasurements s = .next (v.fails (.transport e))) (hv : v.result = s.result)
    (hpass : transportFatal e = false ∨ exitsOnFatal s.fsm = false) : takeSampleOp s = .ok (.err e) v ∧ v.supFace = s.supFace := by
  obtain ⟨htried, hface⟩ := isTransaction_readMeasurements.tried h hv
  obtain ⟨hfsm, -⟩ := State.supFace_eq hface
  rw [← hfsm] at hpass
  exact ⟨by rw [takeSampleOp_fails htried, Op.bind_ok (endTickIfFatal_passes hpass)]; rfl, hface⟩

theorem takeSampleOp_of_fatal (h : exec .readMeasurements s = .next (v.fails (.transport e))) (hv : v.result = s.result)
    (hf : transportFatal e = true) (hs : exitsOnFatal s.fsm = true) :
    takeSampleOp s = .error (.raise (.transport e)) v ∧ v.supFace = s.supFace := by
  obtain ⟨htried, hface⟩ := isTransaction_readMeasurements.tried h hv
  obtain ⟨hfsm, -⟩ := State.supFace_eq hface
  rw [← hfsm] at hs
  exact ⟨by rw [takeSampleOp_fails htried, Op.bind_error (endTickIfFatal_raises hf hs)], hface⟩

/-! The feed (42_power_fsm R304, R305). -/

theorem feedIfDue_rests (h : feedsIn s.fsm = false ∨ feedDue s.lastFed now = false) : feedIfDue now s = .ok () s := by
  unfold feedIfDue
  rw [Op.bind_ok (Op.get_run s), if_neg (by simpa using fun hf => h.resolve_left (by simp [hf]))]
  rfl

section Due

variable (hs : feedsIn s.fsm = true) (hdue : feedDue s.lastFed now = true)

include hs hdue

theorem feedIfDue_writes (h : s.writes d 0x10 [0x03, 0xE8]) :
    feedIfDue now s = .ok () { s.didWrite d 0x10 [0x03, 0xE8] with lastFed := some now } := by
  unfold feedIfDue
  rw [Op.bind_ok (Op.get_run s), if_pos (by simp [hs, hdue]), Op.bind_ok (attemptTransport_ok (wdFeed_writes h))]
  rfl

/-- A feed that failed ends the tick or is passed over, as its error says. -/
theorem feedIfDue_of_fails (h : exec .wdFeed s = .next (u.fails (.transport e))) (hu : u.result = s.result) :
    feedIfDue now s = endTickIfFatal e u ∧ u.supFace = s.supFace := by
  obtain ⟨htried, hface⟩ := isTransaction_wdFeed.tried (f := fun _ => .unit) h hu
  refine ⟨?_, hface⟩
  unfold feedIfDue
  rw [Op.bind_ok (Op.get_run s), if_pos (by simp [hs, hdue]), Op.bind_ok htried]

end Due

theorem feedDue_of_elapsed {fed : Option Nat} (h : ∀ t, fed = some t → 5000 ≤ now - t) : feedDue fed now = true := by
  cases fed with
  | none => rfl
  | some t => exact decide_eq_true (h t rfl)

theorem feedDue_of_recent {t : Nat} (h : now - t < 5000) : feedDue (some t) now = false :=
  decide_eq_false (Nat.not_le.mpr h)

/-! The body of the tick (42_power_fsm R301). -/

theorem tickBody_start (h : s.fsm = .start) (hi : s.intent = false) : tickBody vlim tlim s = startStep s.now s := by
  unfold tickBody
  rw [Op.bind_ok (clock_run s), Op.bind_ok (Op.get_run s), if_pos ⟨h, hi⟩]

section Sampling

variable (hs : ¬(s.fsm = .start ∧ s.intent = false))

include hs

theorem tickBody_sample_raises {x : Exc} (h : takeSampleOp { s with pcSup := .sample } = .error x u) :
    tickBody vlim tlim s = .error x u := by
  unfold tickBody
  rw [Op.bind_ok (clock_run s), Op.bind_ok (Op.get_run s), if_neg hs, Op.bind_ok (setSup_run _ _)]
  exact Op.bind_error h

variable (hsample : takeSampleOp { s with pcSup := .sample } = .ok r s1)

include hsample

theorem tickBody_feed_raises {x : Exc} (h : feedIfDue s.now { s1 with pcSup := .feed } = .error x u) :
    tickBody vlim tlim s = .error x u := by
  unfold tickBody
  rw [Op.bind_ok (clock_run s), Op.bind_ok (Op.get_run s), if_neg hs, Op.bind_ok (setSup_run _ _), Op.bind_ok hsample,
    Op.bind_ok (setSup_run _ _)]
  exact Op.bind_error h

theorem tickBody_steps (h : feedIfDue s.now { s1 with pcSup := .feed } = .ok () t) :
    tickBody vlim tlim s = fsmStepAt vlim tlim r s.now { t with pcSup := .step } := by
  unfold tickBody
  rw [Op.bind_ok (clock_run s), Op.bind_ok (Op.get_run s), if_neg hs, Op.bind_ok (setSup_run _ _), Op.bind_ok hsample,
    Op.bind_ok (setSup_run _ _), Op.bind_ok h, Op.bind_ok (setSup_run _ _)]

end Sampling

/-! The hold of the tick (42_power_fsm R301, R333). -/

section Hold

variable (hl : s.canLock) (hu : u.holder = some u.cur)

include hl hu

theorem tickFrom_ok (h : tickBody vlim tlim s.takeLock = .ok () u) :
    tickFrom vlim tlim s = .ok () { u.dropLock with pcSup := .sleeping } := by
  unfold tickFrom
  rw [Op.bind_ok (acquire_free _ hl), Op.bind_ok (attempt_ok h), Op.bind_ok (unlock_holder hu)]
  rfl

theorem tickFrom_raise {x : Err} (h : tickBody vlim tlim s.takeLock = .error (.raise x) u) :
    tickFrom vlim tlim s = exitSeq 1 u.dropLock := by
  unfold tickFrom
  rw [Op.bind_ok (acquire_free _ hl), Op.bind_ok (attempt_raise h), Op.bind_ok (unlock_holder hu)]

end Hold

/-! The state step inside the hold. -/

/-- No watch: it tells that the supervisor's operations do not wait inside a hold. -/
def idleWatch : Watch := ⟨fun _ => True, False, False, False⟩

theorem idleWatch_sound : idleWatch.Sound :=
  ⟨⟨fun _ _ => trivial, fun _ => trivial, fun _ _ => trivial, fun _ _ => trivial⟩, False.elim⟩

theorem fsmStepAt_not_wait : fsmStepAt vlim tlim r now s ≠ .error .wait t := by
  intro h
  have hend := idleWatch_sound.fsmStepAt False.elim vlim tlim r now s ⟨trivial, False.elim, False.elim⟩
  rw [h] at hend
  exact hend

/-- The state step keeps the lock. -/
theorem stepsAt_holder (now : Nat) : StepsAt (fun _ => True) now fun s => s.holder = some s.cur where
  toTraced := steady_holder.traced_any
  fed := id
  power := fun _ _ => id
  request := .inl fun _ _ => trivial
  launch := fun _ _ => trivial

/-- A state step that gives nothing but ok ends so under the lock it began in. -/
theorem fsmStepAt_of_gives (hs : s.holder = some s.cur)
    (h : finish (doing (fsmStepAt vlim tlim r now)) s = .next (u.gives .unit)) :
    ∃ res, fsmStepAt vlim tlim r now s = .ok () { u with result := res } ∧ u.holder = some u.cur := by
  have hheld := (stepsAt_holder now).fsmStepAt vlim tlim r s hs
  obtain ⟨a, v, hok, hv⟩ | ⟨x, v, -, hv⟩ | ⟨v, -, hv⟩ := giving_next (g := fun _ => .unit) (fun _ => fsmStepAt_not_wait) h
  · have hvu : v = { u with result := v.result } := by
      cases u
      cases v
      simp_all [State.gives]
    rw [leaves_ok hok, hvu] at hheld
    exact ⟨v.result, by rw [hok, ← hvu], hheld⟩
  · simpa using congrArg State.result hv
  · simpa using congrArg State.result hv

end Parts

/-- Settles O31: the arm is the tick's body, and its outcome decides between the sleep and the exit. -/
theorem tickStart : Obligations.TickStart := by
  unfold Obligations.TickStart
  intro s s0 d hfsm hintent hsig hs0 hl
  have htick : tick s = tickFrom s.cfg.vlim s.cfg.tlim s0 := by rw [tick_begins hsig (by simp [hfsm]), hs0]
  have hbody : tickBody s.cfg.vlim s.cfg.tlim s0.takeLock = startStep s.now s0.takeLock := by
    subst hs0
    exact tickBody_start (s := State.takeLock _) hfsm hintent
  have fails {e : TransportError} {u : State} (h : attemptTransport wdArm s0.takeLock = .ok (.error e) u)
      (hface : u.supFace = s0.takeLock.supFace) :
      (transportFatal e = false → exec .tick s = .next ({ u.dropLock with pcSup := .sleeping }.gives .unit)) ∧
        (transportFatal e = true → exec .tick s = exec (.exitSeq 1) u.dropLock) := by
    have hheld : u.holder = some u.cur := State.holds_of_supFace hface rfl
    have hstart : u.fsm = .start := by
      obtain ⟨hu, -⟩ := State.supFace_eq hface
      rw [hu, hs0]
      exact hfsm
    have hends := hbody.trans (startStep_fails h)
    refine ⟨fun hpass => doing_ok (htick.trans (tickFrom_ok hl hheld (hends.trans (endTickIfFatal_passes (.inl hpass))))),
      fun hf => finish_doing_congr (htick.trans (tickFrom_raise hl hheld (hends.trans (endTickIfFatal_raises hf ?_))))⟩
    rw [hstart]
    rfl
  refine ⟨fun hw => ?armed, fun e u hx hu => ?failed, fun f ha hanswer hf => ?fatal⟩
  case armed =>
    have hheld := State.holds_of_supFace (isTransaction_wdFeed.ok (wdFeed_writes hw)) rfl
    exact doing_ok (htick.trans (tickFrom_ok hl hheld (hbody.trans (startStep_writes hw))))
  case failed =>
    obtain ⟨htried, hface⟩ := isTransaction_wdArm.tried (f := fun _ => .unit) hx (hu.trans (by rw [hs0]; rfl))
    exact fails htried hface
  case fatal =>
    have harm : wdArm s0.takeLock = .error (.raise (.transport (.single f))) (s0.takeLock.didWrite d 0x10 [0x03, 0xE8]) :=
      wruN_fatal (k := 2) (n := wdTimeoutCs) (by decide) ha hanswer hf
    exact (fails (attemptTransport_raise harm) (isTransaction_wdArm.raise harm)).2 hf

/-- Settles O32: the sample and the feed lead to the state step, whose end is the tick's. -/
theorem tickSamples : Obligations.TickSamples := by
  unfold Obligations.TickSamples
  intro s s0 s1 s2 u d r vlim tlim hl hstate hsampled hfed hfinish
  have hsamples : ¬(s0.fsm = .start ∧ s0.intent = false) := by
    rintro ⟨hfsm, hintent⟩
    simp [hfsm, hintent] at hstate
  have passes {e : TransportError} (h : transportFatal e = false ∨ s0.fsm = .shutdown) :
      transportFatal e = false ∨ exitsOnFatal s0.fsm = false := h.imp_right fun h => by rw [h]; rfl
  obtain ⟨hsample, hface⟩ : takeSampleOp { s0.takeLock with pcSup := .sample } = .ok r s1 ∧
      s1.supFace = s0.takeLock.supFace := by
    obtain ⟨m, v, rfl, hx, hv, rfl⟩ | ⟨e, rfl, hpass, hx, hv⟩ := hsampled
    · exact takeSampleOp_of_gives hx hv
    · exact takeSampleOp_of_fails hx hv (passes hpass)
  obtain ⟨hfsm, -, hlast, -, -, hres⟩ := State.supFace_eq hface
  have hfeeds (hne : s0.fsm ≠ .start) : feedsIn s1.fsm = true := by
    rw [hfsm]
    obtain h | h | h | ⟨h, -⟩ := hstate
    · simp [h, feedsIn]
    · simp [h, feedsIn]
    · simp [h, feedsIn]
    · exact absurd h hne
  obtain ⟨t, hfeed, hs2, hheld⟩ : ∃ t, feedIfDue s0.now { s1 with pcSup := .feed } = .ok () t ∧
      s2 = { t with pcSup := .step } ∧ s2.holder = some s2.cur := by
    obtain ⟨hrest, rfl⟩ | ⟨hne, hdue, hfed⟩ := hfed
    · refine ⟨_, feedIfDue_rests ?_, rfl, State.holds_of_supFace (s := s0.takeLock) hface rfl⟩
      rw [hfsm, hlast]
      exact hrest.imp (fun h => by simp [h, feedsIn]) fun ⟨fed, h, hrecent⟩ => by simp [h, feedDue_of_recent hrecent]
    · have hdue : feedDue s1.lastFed s0.now = true := hlast ▸ feedDue_of_elapsed hdue
      obtain ⟨hw, rfl⟩ | ⟨e, v, hpass, hx, hv, rfl⟩ := hfed
      · have hwrote := isTransaction_wdFeed.ok (wdFeed_writes hw)
        have hheld := State.holds_of_supFace (s := s0.takeLock) (hwrote.trans hface) rfl
        exact ⟨_, feedIfDue_writes (s := { s1 with pcSup := .feed }) (hfeeds hne) hdue hw, rfl, hheld⟩
      · obtain ⟨hends, hwrote⟩ := feedIfDue_of_fails (s := { s1 with pcSup := .feed }) (hfeeds hne) hdue hx (hv.trans hres.symm)
        have hvfsm : v.fsm = s0.fsm := (State.supFace_eq (s := s0.takeLock) (hwrote.trans hface)).1
        refine ⟨v, hends.trans (endTickIfFatal_passes ?_), rfl, State.holds_of_supFace (s := s0.takeLock) (hwrote.trans hface) rfl⟩
        rw [hvfsm]
        exact passes hpass
  rw [hs2] at hheld hfinish
  obtain ⟨res, hstep, hu⟩ := fsmStepAt_of_gives hheld hfinish
  have htick : tickFrom vlim tlim s0 = .ok () { { u with result := res }.dropLock with pcSup := .sleeping } :=
    tickFrom_ok hl hu ((tickBody_steps (s := s0.takeLock) hsamples hsample hfeed).trans hstep)
  have hrun := doing_ok htick
  refine ⟨hrun, fun hsig hdead hs0 hv ht => (finish_doing_congr ?_).trans hrun⟩
  rw [tick_begins hsig hdead, hs0, hv, ht]

/-- Settles O33: the fatal error of the sample or of the feed is the tick's body's, which ends the hold in the exit sequence. -/
theorem tickFatal : Obligations.TickFatal := by
  unfold Obligations.TickFatal
  intro s s0 a u e vlim tlim hl ha hfatal h
  subst ha
  obtain ⟨hbody, hface⟩ : (∀ v l, tickBody v l s0.takeLock = .error (.raise (.transport e)) u) ∧
      u.supFace = s0.takeLock.supFace := by
    obtain ⟨hstate, hx, hu⟩ | ⟨hstate, hdue, s1, hsampled, hfeed, hu⟩ := h
    · have hexits : exitsOnFatal s0.fsm = true := by
        obtain h | h | ⟨h, -⟩ := hstate <;> rw [h] <;> rfl
      have hsamples : ¬(s0.fsm = .start ∧ s0.intent = false) := by
        rintro ⟨hfsm, hintent⟩
        simp [hfsm, hintent] at hstate
      obtain ⟨hraise, hface⟩ := takeSampleOp_of_fatal hx hu hfatal hexits
      exact ⟨fun _ _ => tickBody_sample_raises (s := s0.takeLock) hsamples hraise, hface⟩
    · have hsamples : ¬(s0.fsm = .start ∧ s0.intent = false) := by
        rintro ⟨hfsm, -⟩
        simp [hfsm] at hstate
      obtain ⟨r, hsample, hface⟩ : ∃ r, takeSampleOp { s0.takeLock with pcSup := .sample } = .ok r s1 ∧
          s1.supFace = s0.takeLock.supFace := by
        obtain ⟨m, v, hx, hv, rfl⟩ | ⟨e', hpass, hx, hv⟩ := hsampled
        · exact ⟨_, takeSampleOp_of_gives hx hv⟩
        · exact ⟨_, takeSampleOp_of_fails hx hv (.inl hpass)⟩
      obtain ⟨hfsm, -, hlast, -, -, hres⟩ := State.supFace_eq hface
      have hfeeds : feedsIn s1.fsm = true := by
        rw [hfsm]
        obtain h | h := hstate <;> simp [h, feedsIn]
      obtain ⟨hends, hwrote⟩ := feedIfDue_of_fails (s := { s1 with pcSup := .feed }) (now := s0.now) hfeeds
        (hlast ▸ feedDue_of_elapsed hdue) hfeed (hu.trans hres.symm)
      have hexits : exitsOnFatal u.fsm = true := by
        rw [(State.supFace_eq (s := s0.takeLock) (hwrote.trans hface)).1]
        obtain h | h := hstate <;> simp [h, exitsOnFatal]
      exact ⟨fun _ _ => tickBody_feed_raises (s := s0.takeLock) hsamples hsample (hends.trans (endTickIfFatal_raises hfatal hexits)),
        hwrote.trans hface⟩
  have htick (v l : Rat) : tickFrom v l s0 = exitSeq 1 u.dropLock :=
    tickFrom_raise hl (State.holds_of_supFace hface rfl) (hbody v l)
  refine ⟨finish_doing_congr (htick _ _), fun hsig hdead hs0 => finish_doing_congr ((tick_begins hsig hdead).trans ?_)⟩
  rw [← hs0]
  exact htick _ _

end Sys2Proof.Machine
end

section
/-! PROOFS. What the sequences of the supervisor show whatever is answered: the shutdown sequence (O28) and the exit sequence
(O35). -/

namespace Sys2Proof.Machine

/-! A write whose outcome does not matter shows at least one attempt (42_power_fsm R321, R331). -/

section BestEffort

variable {E E' : Event → Prop} {s t u : State} {r : Byte} {data : List Byte}

/-- What is shown stays shown as the trace grows. -/
theorem State.addsOnly.mem_newEvents {e : Event} (h : s.addsOnly E t) (he : e ∈ s.newEvents t) (g : t.addsOnly E' u) :
    e ∈ s.newEvents u := by
  obtain ⟨es, hes, -⟩ := h
  obtain ⟨fs, hfs, -⟩ := g
  rw [State.newEvents_append hes] at he
  rw [State.newEvents_append (es := es ++ fs) (by rw [hfs, hes, List.append_assoc]), List.map_append]
  exact List.mem_append_left _ he

theorem traced_growth (s : State) : Traced (fun _ => True) (s.addsOnly (fun _ => True) ·) := s.traced_addsOnly fun _ _ => trivial

/-- A write transaction ends in a cut of host power or a fault of the model, or its first attempt is shown. -/
theorem wrreg_shows (r : Byte) (data : List Byte) (s : State) :
    (∃ e u, wrreg r data s = .error e u ∧ (e = .cut ∨ ∃ f, e = .stop f)) ∨
      ∃ res, .write r data res ∈ s.newEvents (leaves (wrreg r data) s) := by
  obtain ⟨a, u, h, hu⟩ | ⟨e, u, h, he, -⟩ := oneAttempt_memWrite r data s
  · refine .inr ⟨a, ?_⟩
    have hshown : .write r data a ∈ s.newEvents u := by
      have hattempts := hu.trace.newEvents
      exact List.mem_of_mem_filter (p := Event.isAttempt) (by rw [hattempts]; exact List.mem_singleton_self _)
    have hgrew : s.addsOnly (fun _ => True) u := by
      obtain ⟨es, hes, -⟩ := hu.trace
      exact ⟨es, hes, fun _ _ => trivial⟩
    cases a with
    | ok v =>
      have hends : wrreg r data s = .ok v u := retryLoop_ok h _
      rwa [leaves_ok hends]
    | error f =>
      cases hf : failureFatal f with
      | true =>
        have hends : wrreg r data s = .error (.raise (.transport (.single f))) u := retryLoop_fatal h hf _
        rwa [leaves_error hends]
      | false =>
        have hrest := keeps_bind ((traced_growth u).sleep retryBackoffMs) (fun _ =>
          (traced_growth u).retryLoop ((traced_growth u).memWrite (r := r) (data := data) fun _ => trivial) 2) u
          (State.addsOnly_nil rfl)
        have hagain : leaves (wrreg r data) s =
            leaves (sleep retryBackoffMs >>= fun _ => retryLoop (memWrite r data) 2) u :=
          leaves_congr (retryLoop_again h hf 2)
        rw [hagain]
        exact hgrew.mem_newEvents hshown hrest
  · exact .inl ⟨e, u, retryLoop_error h _, he⟩

/-- All that a write whose outcome does not matter can do: it is shown and leaves the supervisor's registers alone, or host power is
cut, or it is a fault of the model. -/
theorem attempt_wrreg_cases (hE : ∀ e : Event, e.isRoutine = true → E e) (hw : ∀ res, E (.write r data res)) (s : State) :
    (∃ res v, attempt (wrreg r data) s = .ok res v ∧ s.addsOnly E v ∧ v.supFace = s.supFace ∧
        ∃ a, .write r data a ∈ s.newEvents v) ∨
      (∃ v, attempt (wrreg r data) s = .error .cut v) ∨ ∃ f v, attempt (wrreg r data) s = .error (.stop f) v := by
  have htransaction : IsTransaction (wrreg r data) := fun s => (onBus_supFace s).wrreg r data
  have hgrew := (s.traced_addsOnly hE).wrreg hw s (State.addsOnly_nil rfl)
  have hshows := wrreg_shows r data s
  obtain ⟨a, v, h, ha⟩ | ⟨e, v, h, ha⟩ | ⟨e, v, h, hne, ha⟩ := attempt_cases (wrreg r data) s
  · rw [leaves_ok h] at hgrew hshows
    exact .inl ⟨_, v, ha, hgrew, htransaction.ok h, hshows.resolve_left (by simp [h])⟩
  · rw [leaves_error h] at hgrew hshows
    exact .inl ⟨_, v, ha, hgrew, htransaction.raise h, hshows.resolve_left (by simp [h])⟩
  · cases e with
    | raise e => exact absurd rfl (hne e)
    | wait => exact absurd h (htransaction.not_wait v)
    | cut => exact .inr (.inl ⟨v, ha⟩)
    | stop f => exact .inr (.inr ⟨f, v, ha⟩)

end BestEffort

theorem wruN_eq {k v : Nat} (r : Byte) (hv : v < 256 ^ k) : wruN k r v = wrreg r (beN k v) := if_pos hv

theorem wdDisable_eq : wdDisable = wrreg 0x10 [0x00, 0x00] := wruN_eq (k := 2) (v := 0) 0x10 (by decide)

theorem requestShutdown_eq : requestShutdown = wrreg 0x30 [0x01] := wruN_eq (k := 1) (v := 1) 0x30 (by decide)

/-! The exit sequence (42_power_fsm R331). -/

section Exit

variable {s v : State} {code : Fin 3}

/-- Past the disable write the exit sequence releases the lock and exits, whatever became of the write. -/
theorem exitSeq_of_attempt {res : Except Err Unit} (hl : s.canLock)
    (h : attempt wdDisable { s with pcSup := .exiting }.takeLock = .ok res v) (hv : v.holder = some v.cur) :
    exitSeq code s = .ok () (v.dropLock.exitWith code) := by
  unfold exitSeq exitFrom
  rw [Op.bind_ok (setSup_run _ s), Op.bind_ok (acquire_free (s := { s with pcSup := .exiting }) _ hl), Op.bind_ok h,
    Op.bind_ok (unlock_holder hv)]
  rfl

theorem exitSeq_of_error {x : Exc} (hl : s.canLock)
    (h : attempt wdDisable { s with pcSup := .exiting }.takeLock = .error x v) : exitSeq code s = .error x v := by
  unfold exitSeq exitFrom
  rw [Op.bind_ok (setSup_run _ s), Op.bind_ok (acquire_free (s := { s with pcSup := .exiting }) _ hl)]
  exact Op.bind_error h

end Exit

/-- Settles O35: the disable write is tried under the lock, and after it comes the exit. -/
theorem exitSequence : Obligations.ExitSequence := by
  unfold Obligations.ExitSequence
  intro s s0 code c hc hs0 hl
  subst hc hs0
  let s1 := { s with pcSup := .exiting }.takeLock
  refine ⟨fun d hd hanswer => ?answered, fun t h => ?whatever⟩
  case answered =>
    have hattempt : ∃ res, attempt wdDisable s1 = .ok res (s1.didWrite d 0x10 [0x00, 0x00]) := by
      obtain hok | ⟨f, hfail, hf⟩ := hanswer
      · exact ⟨_, attempt_ok (wruN_writes (k := 2) (v := 0) (by decide) ⟨hd, hok⟩)⟩
      · exact ⟨_, attempt_raise (wruN_fatal (k := 2) (n := 0) (by decide) hd hfail hf)⟩
    obtain ⟨res, hres⟩ := hattempt
    have hheld : (s1.didWrite d 0x10 [0x00, 0x00]).holder = some (s1.didWrite d 0x10 [0x00, 0x00]).cur := by
      simp [State.didWrite, State.atAnswer, s1]
    exact doing_ok (exitSeq_of_attempt hl hres hheld)
  case whatever =>
    have hrun := attempt_wrreg_cases (E := fun _ => True) (r := 0x10) (data := [0x00, 0x00]) (fun _ _ => trivial)
      (fun _ => trivial) s1
    rw [← wdDisable_eq] at hrun
    obtain ⟨res, v, hv, ⟨es, hes, -⟩, hface, a, ha⟩ | ⟨v, hv⟩ | ⟨f, v, hv⟩ := hrun
    · have hends := doing_ok (exitSeq_of_attempt (code := code.castLE (by decide)) hl hv (State.holds_of_supFace hface rfl))
      obtain rfl : _ = t := Host.Outcome.next.inj (hends.symm.trans h)
      have htrace : ((v.dropLock.exitWith (code.castLE (by decide))).gives .unit).trace = s.trace ++
          ((s.now, .lock s.cur) :: es ++ [(v.now, .unlock v.cur)] ++ [(v.now, .exit (code.castLE (by decide)))]) := by
        simp [State.gives, State.exitWith, State.dropLock, hes, s1, State.takeLock]
      rw [State.newEvents_append hes] at ha
      refine .inr ⟨rfl, rfl, rfl, ?_⟩
      rw [State.newEvents_append htrace, List.map_append]
      exact ⟨List.getLast?_concat, a, by simpa using ha⟩
    · have hends := doing_cut (exitSeq_of_error (code := code.castLE (by decide)) hl hv)
      exact .inl ⟨v, Host.Outcome.next.inj (h.symm.trans hends)⟩
    · have hends := doing_stop (exitSeq_of_error (code := code.castLE (by decide)) hl hv)
      cases h.symm.trans hends

/-! The shutdown sequence (42_power_fsm R321 to R325). -/

/-- An event that is no launch, successful or not. -/
def Event.isNoPoweroff (e : Event) : Prop := ∀ c ok, e ≠ .poweroff c ok

theorem isNoPoweroff_of_routine (e : Event) (h : e.isRoutine = true) : e.isNoPoweroff := by
  rintro c ok rfl
  simp [Event.isRoutine] at h

/-- What steps (2) and (3) of the shutdown sequence lead to from `s`: Dead, or the launch's failure recorded, with at most one
launch, of a command. -/
structure State.launchesTo (s u : State) : Prop where
  done : u.step1Done = s.step1Done
  fsm : u.fsm = .dead ∨ (u.fsm = s.fsm ∧ u.supErr = some .poweroffLaunchFailed)
  trace : u.trace = s.trace ∨ ∃ c ok, c ≠ [] ∧ u.trace = s.trace ++ [(s.now, .poweroff c ok)]

theorem State.launchesTo.addsOnly {s u : State} (h : s.launchesTo u) : s.addsOnly (fun _ => True) u := by
  obtain hnone | ⟨c, ok, -, hone⟩ := h.trace
  · exact State.addsOnly_nil hnone
  · exact State.addsOnly_event hone trivial

theorem launch_launchesTo (s : State) : ∃ u, shutdownSeq.launch s = .ok () u ∧ s.launchesTo u := by
  unfold shutdownSeq.launch
  rw [Op.bind_ok (Op.get_run s)]
  by_cases hdry : s.cfg.poweroff = []
  · rw [if_pos hdry]
    exact ⟨_, rfl, rfl, .inl rfl, .inl rfl⟩
  · obtain ⟨ok, p, hpop⟩ := draws_popLaunch s
    rw [if_neg hdry, Op.bind_ok hpop, Op.bind_ok (emit_run _ _)]
    cases ok with
    | true => exact ⟨_, rfl, rfl, .inl rfl, .inr ⟨_, _, hdry, rfl⟩⟩
    | false => exact ⟨_, rfl, rfl, .inr ⟨rfl, rfl⟩, .inr ⟨_, _, hdry, rfl⟩⟩

/-- All that the request comes to before the launch: it was issued, or is attempted now, or host power is cut in it, or it is a fault
of the model. -/
theorem shutdownSeq_cases (s : State) :
    (∃ v, shutdownSeq s = shutdownSeq.launch v ∧ v.step1Done = true ∧ v.fsm = s.fsm ∧ s.addsOnly Event.isNoPoweroff v ∧
        (s.step1Done = false → ∃ a, .write 0x30 [0x01] a ∈ s.newEvents v)) ∨
      (∃ v, shutdownSeq s = .error .cut v) ∨ ∃ f v, shutdownSeq s = .error (.stop f) v := by
  cases hd : s.step1Done with
  | true => exact .inl ⟨s, shutdownSeq_of_done hd, hd, rfl, State.addsOnly_nil rfl, nofun⟩
  | false =>
    have hrun := attempt_wrreg_cases (r := 0x30) (data := [0x01]) isNoPoweroff_of_routine (fun _ _ _ => nofun) s
    rw [← requestShutdown_eq] at hrun
    obtain ⟨res, v, hv, hadds, hface, hshown⟩ | ⟨v, hv⟩ | ⟨f, v, hv⟩ := hrun
    · exact .inl ⟨_, shutdownSeq_of_attempt hd hv, rfl, (State.supFace_eq hface).1, hadds, fun _ => hshown⟩
    · exact .inr (.inl ⟨v, shutdownSeq_of_error hd hv⟩)
    · exact .inr (.inr ⟨f, v, shutdownSeq_of_error hd hv⟩)

theorem split_at_last {α : Type} {es a b : List α} {x y : α} (h : es ++ [x] = a ++ y :: b) (hy : y ∉ es) :
    a = es ∧ x = y ∧ b = [] := by
  obtain rfl | ⟨b', z, rfl⟩ := List.eq_nil_or_concat b
  · obtain ⟨rfl, hx⟩ := List.append_inj' h rfl
    exact ⟨rfl, by simpa using hx, rfl⟩
  · rw [List.concat_eq_append, ← List.cons_append, ← List.append_assoc] at h
    obtain ⟨rfl, -⟩ := List.append_inj' h rfl
    simp at hy

/-- Settles O28: the request's outcome does not matter, and the launch is the last event. -/
theorem shutdownOutcome : Obligations.ShutdownOutcome := by
  unfold Obligations.ShutdownOutcome
  intro s t h
  obtain ⟨v, hv, hdone, hfsm, ⟨es, hes, hquiet⟩, hshown⟩ | ⟨v, hv⟩ | ⟨f, v, hv⟩ := shutdownSeq_cases s
  · obtain ⟨u, hu, hlaunch⟩ := launch_launchesTo v
    obtain rfl : u.gives .unit = t := Host.Outcome.next.inj ((doing_ok (hv.trans hu)).symm.trans h)
    have hno : ∀ e ∈ es.map Prod.snd, e.isNoPoweroff := List.forall_mem_map.mpr hquiet
    refine .inr ⟨hlaunch.done.trans hdone, rfl, ?_, fun hnot => ?_, fun a b c ok hsplit => ?_⟩
    · rw [← hfsm]
      exact hlaunch.fsm
    · obtain ⟨a, ha⟩ := hshown hnot
      exact ⟨_, State.addsOnly.mem_newEvents ⟨es, hes, hquiet⟩ ha
        (hlaunch.addsOnly.trans (State.addsOnly_nil rfl)), beq_self_eq_true _⟩
    · obtain hnone | ⟨c', ok', hc', hone⟩ := hlaunch.trace
      · rw [State.newEvents_append (t := u.gives .unit) (hnone.trans hes)] at hsplit
        exact absurd rfl (hno (.poweroff c ok) (by simp [hsplit]) c ok)
      · rw [State.newEvents_append (t := u.gives .unit) (es := es ++ [(v.now, .poweroff c' ok')])
          (by rw [← List.append_assoc, ← hes]; exact hone), List.map_append] at hsplit
        obtain ⟨rfl, hlast, rfl⟩ := split_at_last hsplit fun hin => absurd rfl (hno _ hin c ok)
        obtain ⟨rfl, -⟩ := Event.poweroff.inj hlast
        exact ⟨hc', by simp, fun e he => hno e (by simpa using he)⟩
  · exact .inl ⟨v, Host.Outcome.next.inj (h.symm.trans (doing_cut hv))⟩
  · cases h.symm.trans (doing_stop hv)

end Sys2Proof.Machine
end

section
/-! PROOFS. The framer: the check values of the CRC (O40), the bytes of a frame (O41) and the blocks of an image (O42). -/

namespace Sys2Proof.Machine

/-- Settles O40: the pseudocode of 43_dfu_framer R350 evaluates to the check values. -/
theorem crcValues : Obligations.CrcValues := by
  unfold Obligations.CrcValues
  exact ⟨fun s data => giving_ok (Op.pure_run _ s), by decide +kernel, by decide +kernel, by decide +kernel⟩

/-! Frames (43_dfu_framer R351, R352). -/

section Frames

variable {i : Nat} {d : List Byte}

theorem be16_eq (v : Nat) : be16 v = [BitVec.ofNat 8 (v / 256), BitVec.ofNat 8 v] := by simp [be16, beN]

theorem be32_eq (v : Nat) :
    be32 v = [BitVec.ofNat 8 (v / 2 ^ 24), BitVec.ofNat 8 (v / 2 ^ 16), BitVec.ofNat 8 (v / 2 ^ 8), BitVec.ofNat 8 v] := by
  simp [be32, beN]

theorem frame_inRange (h : frameInRange i d = true) (s : State) : frame i d s = .ok (frameBytes i d) s := by
  rw [frame, if_pos h, Op.pure_run]

theorem frame_outOfRange (h : ¬frameInRange i d = true) (s : State) : frame i d s = .error (.stop .frameOutOfRange) s := by
  rw [frame, if_neg h, stop_run]

end Frames

/-- Settles O41: the ranges of FRAME decide, and inside them each number stands as its big-endian bytes. (`frameBytes` is the
model's frame.) -/
theorem frameBytes_hold : Obligations.FrameBytes := by
  unfold Obligations.FrameBytes
  intro s i data
  refine ⟨fun hi hmin hmax => ⟨frameBody i data, _, ?body, rfl, ?bytes⟩, fun hout => ?fault⟩
  case body =>
    rw [frameBody, be16_eq, be16_eq]
    rfl
  case bytes =>
    have hframe := giving_ok (f := .bytes) (frame_inRange (frameInRange_iff.mpr ⟨hi, hmin, hmax⟩) s)
    rw [frameBytes, be32_eq] at hframe
    exact hframe
  case fault =>
    refine giving_stop (frame_outOfRange (fun hin => ?_) s)
    obtain ⟨hi, hmin, hmax⟩ := frameInRange_iff.mp hin
    omega

/-! Blocks (43_dfu_framer R353). -/

section Blocks

variable {image : List Byte} {i n : Nat}

theorem le_blockSize_mul_blockCount (n : Nat) : n ≤ blockSize * blockCount n := by
  unfold blockSize blockCount
  omega

theorem blockSize_mul_pred_blockCount_lt (h : 1 ≤ n) : blockSize * (blockCount n - 1) < n := by
  unfold blockSize blockCount
  omega

@[simp] theorem blockAt_length (image : List Byte) (i : Nat) :
    (blockAt image i).length = min blockSize (image.length - blockSize * i) := by
  rw [blockAt, List.length_take, List.length_drop]

/-- A block with another one after it is full. -/
theorem blockAt_length_of_succ_lt (h : i + 1 < blockCount image.length) : (blockAt image i).length = blockSize := by
  rw [blockAt_length]
  unfold blockCount at h
  unfold blockSize
  omega

@[simp] theorem partitionImage_length (image : List Byte) : (partitionImage image).length = blockCount image.length := by
  rw [partitionImage, List.length_map, List.length_range]

theorem partitionImage_getElem? (h : i < blockCount image.length) : (partitionImage image)[i]? = some (blockAt image i) := by
  rw [partitionImage, List.getElem?_map, List.getElem?_range h, Option.map_some]

theorem partitionImage_getLast? (h : 1 ≤ image.length) :
    (partitionImage image).getLast? = some (blockAt image (blockCount image.length - 1)) := by
  have hcount := le_blockSize_mul_blockCount image.length
  rw [List.getLast?_eq_getElem?, partitionImage_length, partitionImage_getElem? (by unfold blockSize at hcount; omega)]

/-- The first `k` blocks are the image's bytes up to where block `k` would begin. -/
theorem flatten_map_blockAt (image : List Byte) (k : Nat) :
    ((List.range k).map (blockAt image)).flatten = image.take (blockSize * k) := by
  induction k with
  | zero => rfl
  | succ k ih =>
    rw [List.range_succ, List.map_append, List.flatten_append, ih, List.map_singleton, List.flatten_singleton, blockAt,
      Nat.mul_succ, List.take_add]

theorem partitionImage_flatten (image : List Byte) : (partitionImage image).flatten = image := by
  rw [partitionImage, flatten_map_blockAt, List.take_of_length_le (le_blockSize_mul_blockCount _)]

end Blocks

/-- Settles O42: the number of blocks leaves a last one of 1 to 4096 bytes. -/
theorem partitionBlocks : Obligations.PartitionBlocks := by
  unfold Obligations.PartitionBlocks
  intro s image hmin _
  refine ⟨partitionImage image, giving_ok (Op.pure_run _ s), partitionImage_length image, partitionImage_flatten image,
    fun i hi => ?full, fun i hi => partitionImage_getElem? (by rwa [partitionImage_length] at hi), fun b hb => ?last⟩
  case full =>
    rw [partitionImage_length] at hi
    rw [partitionImage_getElem? (Nat.lt_of_succ_lt hi), Option.map_some, blockAt_length_of_succ_lt hi]
    rfl
  case last =>
    obtain rfl : blockAt image (blockCount image.length - 1) = b :=
      Option.some.inj ((partitionImage_getLast? hmin).symm.trans hb)
    have hend := le_blockSize_mul_blockCount image.length
    have hbegin := blockSize_mul_pred_blockCount_lt hmin
    rw [blockAt_length, partitionImage_length]
    unfold blockSize at hend hbegin ⊢
    omega

end Sys2Proof.Machine
end

section
/-! PROOFS. The DFU registers whose first attempt succeeds, and the size that is refused (O43). -/

namespace Sys2Proof.Machine

section DfuPrimitives

variable {s : State} {d : BusDraw}

/-- A legal size fits the four bytes of the start write (43_dfu_framer R360). -/
theorem dfuStart_writes {n : Nat} (hn : imageSizeLegal n = true) (h : s.writes d 0x40 (be32 n)) :
    dfuStart n s = .ok () (s.didWrite d 0x40 (be32 n)) := by
  have hsize := (imageSizeLegal_iff n).mp hn
  rw [dfuStart, if_pos hn]
  exact wruN_writes (by omega) h

theorem dfuStart_refused {n : Nat} (hn : ¬imageSizeLegal n = true) :
    dfuStart n s = .error (.raise (.badRequest (.imageSize n))) s := by
  rw [dfuStart, if_neg hn, raise_run]

@[simp] theorem State.didRead_session (s : State) (d : BusDraw) (r : Byte) (n : Nat) :
    (s.didRead d r n).session = s.session := by
  simp [State.didRead, State.atAnswer]

/-- The session remembers the status (10_state R26). -/
theorem dfuStatus_reads {st : Byte} (h : s.reads d 0x41 1 [st]) : dfuStatus s = .ok st (s.polled d st) := by
  rw [dfuStatus, Op.bind_ok (rdu8_reads h), Op.bind_ok (Op.modify_run _ _), Op.pure_run, State.didRead_session]
  rfl

theorem dfuBlock_writes {i : Nat} {data : List Byte} (hin : frameInRange i data = true)
    (h : s.writes d 0x43 (frameBytes i data)) : dfuBlock i data s = .ok () (s.didWrite d 0x43 (frameBytes i data)) := by
  rw [dfuBlock, Op.bind_ok (frame_inRange hin s), wrreg_writes h]

end DfuPrimitives

/-- Settles O43: each is one transaction, the size and the frame checked before it. -/
theorem dfuRegisters : Obligations.DfuRegisters := by
  unfold Obligations.DfuRegisters
  intro s d
  refine ⟨fun n hn => doing_raise (dfuStart_refused fun hlegal => ?refused), fun n hmin hmax data hdata h => ?start,
    fun st h => giving_ok (dfuStatus_reads h),
    fun i data hi hmin hmax h => doing_ok (dfuBlock_writes (frameInRange_iff.mpr ⟨hi, hmin, hmax⟩) h)⟩
  case refused =>
    have hsize := (imageSizeLegal_iff n).mp hlegal
    omega
  case start =>
    obtain rfl : data = be32 n := hdata.trans (be32_eq n).symm
    exact doing_ok (dfuStart_writes ((imageSizeLegal_iff n).mpr ⟨hmin, hmax⟩) h)

end Sys2Proof.Machine
end

section
/-! PROOFS. The steps of a session given by themselves (O46), and the upload that is refused before the lock (O47). -/

namespace Sys2Proof.Machine

section SessionStep

variable {α : Type} {s t u v : State} {d : BusDraw} {p : Susp}

/-! Transactions whose meaning is a transport error. -/

/-- A transaction whose meaning is an error raised it, in a state that is the same but for the result. -/
theorem IsTransaction.raises {x : Op α} {f : α → Value} {e : Err} (hx : IsTransaction x)
    (h : finish (giving f x) s = .next (v.fails e)) : ∃ w, x s = .error (.raise e) w ∧ w.fails e = v.fails e := by
  obtain ⟨a, w, -, hv⟩ | ⟨e', w, hraise, hv⟩ | ⟨w, -, hv⟩ := giving_next hx.not_wait h
  · simpa using congrArg State.result hv
  · obtain rfl : e = e' := by simpa using congrArg State.result hv
    exact ⟨w, hraise, hv.symm⟩
  · simpa using congrArg State.result hv

/-- A result set takes the place of the one before. -/
theorem State.gives_eq_of_fails_eq {e : Err} (x : Value) (h : u.fails e = v.fails e) : u.gives x = v.gives x :=
  calc
    u.gives x = (u.fails e).gives x := rfl
    _ = (v.fails e).gives x := by rw [h]

theorem isTransaction_dfuStatus : IsTransaction dfuStatus := fun s => (onBus_supFace s).dfuStatus

theorem isTransaction_dfuBw : IsTransaction dfuBw := fun s => (onBus_supFace s).rdu16 (.inl trivial) 0x42

theorem isTransaction_dfuAbort : IsTransaction dfuAbort := fun s => (onBus_supFace s).dfuAbort

/-! One block (44_dfu_engine R390). -/

theorem dfuSend_eq (s : State) (i : Nat) : dfuSend i s = dfuBlock i (blockAt s.dfuImage i) (s.dfuAt s.cur (.send i)) := rfl

theorem dfuBlock_outOfRange {i : Nat} {data : List Byte} (h : ¬frameInRange i data = true) :
    dfuBlock i data s = .error (.stop .frameOutOfRange) s :=
  Op.bind_error (frame_outOfRange h s)

theorem frameInRange_blockAt_iff {image : List Byte} {i : Nat} :
    frameInRange i (blockAt image i) = true ↔ i ≤ 65534 ∧ blockSize * i < image.length := by
  rw [frameInRange_iff, blockAt_length]
  unfold blockSize
  omega

/-! Commit and abort (44_dfu_engine R397, R400). -/

theorem commitSeq_rests (h : (s.dfuAt s.cur .commit).rests p commitSleepMs) :
    commitSeq s = dfuCommit ((s.dfuAt s.cur .commit).didSleep p commitSleepMs) := by
  unfold commitSeq
  rw [Op.bind_ok (setDfu_run _ s), Op.bind_ok (sleep_rests h)]

/-- Whatever comes of the abort write, short of a cut of host power or a fault, the sequence goes on (44_dfu_engine R401). -/
theorem abortSeq_rests {r : Except Err Unit} (h : (s.dfuAt s.cur .abort).rests p abortSleepMs)
    (hr : attempt dfuAbort ((s.dfuAt s.cur .abort).didSleep p abortSleepMs) = .ok r v) : abortSeq s = .ok () v := by
  unfold abortSeq
  rw [Op.bind_ok (setDfu_run _ s), Op.bind_ok (sleep_rests h), Op.bind_ok hr]
  rfl

theorem dfuCommit_writes (h : s.writes d 0x44 [0x00]) : dfuCommit s = .ok () (s.didWrite d 0x44 [0x00]) :=
  wruN_writes (k := 1) (v := 0) (by decide) h

theorem dfuAbort_writes (h : s.writes d 0x45 [0x00]) : dfuAbort s = .ok () (s.didWrite d 0x45 [0x00]) :=
  wruN_writes (k := 1) (v := 0) (by decide) h

end SessionStep

/-- Settles O46: a frame write is the block's own write; the commit and the abort are their writes after the sleep, and the abort
handles what its write raises. -/
theorem sessionSteps : Obligations.SessionSteps := by
  unfold Obligations.SessionSteps
  intro s
  refine ⟨fun i hi => doing_stop (dfuBlock_outOfRange fun hin => ?noBlock), fun i d hi hlen fr hfr h => ?block,
    fun i => rfl, fun p u hp hu => ⟨fun d h => doing_ok ?commit, fun e v h => ?commitFails⟩,
    fun p d u hp hu ha hanswer => ?abort, fun p u v e hp hu h => ?abortFails⟩
  case noBlock =>
    obtain ⟨hle, hlt⟩ : i ≤ 65534 ∧ 4096 * i < s.dfuImage.length := frameInRange_blockAt_iff.mp hin
    omega
  case block =>
    subst hfr
    exact doing_ok (dfuBlock_writes (frameInRange_blockAt_iff.mpr ⟨hi, hlen⟩) h)
  case commit =>
    subst hu
    exact (commitSeq_rests hp).trans (dfuCommit_writes h)
  case commitFails =>
    subst hu
    exact (finish_doing_congr (commitSeq_rests hp)).trans h
  case abort =>
    subst hu
    obtain hok | ⟨f, hfail, hf⟩ := hanswer
    · exact doing_ok (abortSeq_rests hp (attempt_ok (dfuAbort_writes ⟨ha, hok⟩)))
    · exact doing_ok (abortSeq_rests hp (attempt_raise (wruN_fatal (k := 1) (n := 0) (by decide) ha hfail hf)))
  case abortFails =>
    subst hu
    obtain ⟨w, hraise, hw⟩ := isTransaction_dfuAbort.raises (f := fun _ => .unit) h
    rw [← State.gives_eq_of_fails_eq .unit hw]
    exact doing_ok (abortSeq_rests hp (attempt_raise hraise))

/-! The refused upload (44_dfu_engine R381). -/

theorem dfuUpload_refused {k : Hold} {image : List Byte} (h : ¬imageSizeLegal image.length = true) (s : State) :
    dfuUpload k image s = .error (.raise (.badRequest (.imageSize image.length))) (s.dfuAt s.cur .validate) := by
  unfold dfuUpload
  rw [Op.bind_ok (setDfu_run _ s), if_neg h, raise_run]

theorem cUpload_raise {x : Op Unit} {s t : State} {e : Err} (h : x s = .error (.raise e) t) :
    cUpload x s = .ok (.error (mapError e)) t := by
  unfold cUpload
  rw [Op.bind_ok (attempt_raise h)]
  rfl

/-- Settles O47: the size is tested before the lock, with the engine at Validate. -/
theorem uploadRefused : Obligations.UploadRefused := by
  unfold Obligations.UploadRefused
  intro s image hsize
  have hillegal : ¬imageSizeLegal image.length = true := fun hlegal => by
    have hrange := (imageSizeLegal_iff _).mp hlegal
    omega
  exact ⟨setPoint s.pcDfu s.cur .validate, fun a ha => setPoint_lookup_ne _ _ ha, doing_raise (dfuUpload_refused hillegal s),
    replying_ok (cUpload_raise (dfuUpload_refused hillegal s))⟩

end Sys2Proof.Machine
end

section
/-! PROOFS. The pre-block wait followed poll by poll (O44), and the drain iteration by iteration (O45). -/

namespace Sys2Proof.Machine

/-! The clock and the dialect at the points of the engine's loops. -/

section Points

variable (s : State) (d : BusDraw) (p : Susp) (r st : Byte) (n ms : Nat)

@[simp] theorem State.didRead_now : (s.didRead d r n).now = s.now + d.susp.dur := by
  simp [State.didRead, State.atAnswer]

@[simp] theorem State.polled_now : (s.polled d st).now = s.now + d.susp.dur := s.didRead_now d 0x41 1

@[simp] theorem State.didSleep_now : (s.didSleep p ms).now = s.now + (ms + p.dur) := by
  simp [State.didSleep]

@[simp] theorem State.polled_dialect : (s.polled d st).dialect = s.dialect := s.didRead_dialect d 0x41 1

@[simp] theorem State.didSleep_dialect : (s.didSleep p ms).dialect = s.dialect := by
  simp [State.didSleep]

end Points

/-! One poll of a pre-block wait (44_dfu_engine R385 to R389). -/

section Poll

variable {s u v : State} {d : BusDraw} {p : Susp} {st : Byte} {i start k ms : Nat}

theorem prewaitLoop_raise {e : Exc} (h : dfuStatus s = .error e v) : prewaitLoop i start (k + 1) s = .error e v :=
  Op.bind_error h

theorem prewaitLoop_ready (h : s.reads d 0x41 1 [st]) (hst : classify st = .ready) :
    prewaitLoop i start (k + 1) s = .ok () (s.polled d st) := by
  rw [prewaitLoop, Op.bind_ok (dfuStatus_reads h), hst]
  rfl

theorem prewaitLoop_fatal {e : Err} (h : s.reads d 0x41 1 [st]) (hst : classify st = .fatal e) :
    prewaitLoop i start (k + 1) s = .error (.raise e) (s.polled d st) := by
  rw [prewaitLoop, Op.bind_ok (dfuStatus_reads h), hst]
  rfl

/-! A waiting status: the limit is tested first, the signal second, then comes the pause (44_dfu_engine R388). -/

section Waiting

variable (h : s.reads d 0x41 1 [st]) (hst : classify st = .wait ms)

include h hst

theorem prewaitLoop_timeout (hl : dfuWaitMs ≤ (s.polled d st).now - start) :
    prewaitLoop i start (k + 1) s = .error (.raise (.dfuTimeout .preWait (some i))) (s.polled d st) := by
  rw [prewaitLoop, Op.bind_ok (dfuStatus_reads h), hst]
  exact (Op.bind_ok (Op.get_run _)).trans (by rw [if_pos hl, raise_run])

variable (hl : (s.polled d st).now - start < dfuWaitMs)

include hl

theorem prewaitLoop_cancelled (hc : (s.polled d st).sigCancel = true) :
    prewaitLoop i start (k + 1) s = .error (.raise (.dfuCancelled i)) (s.polled d st) := by
  rw [prewaitLoop, Op.bind_ok (dfuStatus_reads h), hst]
  exact (Op.bind_ok (Op.get_run _)).trans (by rw [if_neg (Nat.not_le.mpr hl), if_pos hc, raise_run])

theorem prewaitLoop_again (hc : (s.polled d st).sigCancel = false) :
    prewaitLoop i start (k + 1) s = (sleep ms >>= fun _ => prewaitLoop i start k) (s.polled d st) := by
  rw [prewaitLoop, Op.bind_ok (dfuStatus_reads h), hst]
  exact (Op.bind_ok (Op.get_run _)).trans (by rw [if_neg (Nat.not_le.mpr hl), if_neg (by simp [hc])])

end Waiting

theorem classify_waiting (h : st = 1 ∨ st = 3) : classify st = .wait (pauseMs st) := by
  obtain rfl | rfl := h <;> rfl

theorem classify_status (hl : 5 ≤ st.toNat) (hu : st.toNat ≤ 8) : classify st = .fatal (.dfuStatus st) := by
  unfold classify
  grind

theorem classify_unknown (h : 9 ≤ st.toNat) : classify st = .fatal (.dfuUnknown st) := by
  unfold classify
  grind

/-! Polls that do not end the wait. -/

/-- Polls that do not end the wait use one unit of fuel each. -/
theorem prewaitLoop_keepsPolling {l : List WaitPoll} (h : s.keepsPolling start l) :
    prewaitLoop i start (l.length + k) s = prewaitLoop i start k (s.afterPolls l) := by
  induction l generalizing s with
  | nil => rw [List.length_nil, Nat.zero_add]; rfl
  | cons w l ih =>
    obtain ⟨hreads, hst, hlimit, hsignal, hrests, hrest⟩ := h
    rw [List.length_cons, Nat.add_right_comm, prewaitLoop_again hreads (classify_waiting hst) hlimit hsignal,
      Op.bind_ok (sleep_rests hrests)]
    exact ih hrest

theorem pauseMs_ge (st : Byte) : 100 ≤ pauseMs st := by
  unfold pauseMs
  split <;> decide

/-- Each pause lasts 100 ms or more, so the limit bounds the polls (log 28). -/
theorem keepsPolling_length {w : WaitPoll} {l : List WaitPoll} (h : s.keepsPolling start (w :: l)) :
    s.now + 100 * l.length < start + 30000 := by
  induction l generalizing s w with
  | nil =>
    obtain ⟨-, -, hlimit, -⟩ := h
    rw [State.polled_now] at hlimit
    rw [List.length_nil]
    omega
  | cons x l ih =>
    obtain ⟨-, -, -, -, -, hrest⟩ := h
    have hlater := ih hrest
    have hpause := pauseMs_ge w.status
    rw [State.didSleep_now, State.polled_now] at hlater
    rw [List.length_cons]
    omega

/-- The fuel of a pre-block wait lasts beyond every poll before the limit (log 28). -/
theorem prewaitLoop_reaches {l : List WaitPoll} (h : s.keepsPolling s.now l) :
    ∃ k, prewaitLoop i s.now prewaitFuel s = prewaitLoop i s.now (k + 1) (s.afterPolls l) := by
  have hfuel : l.length ≤ 301 := by
    cases l with
    | nil => exact Nat.zero_le _
    | cons w l =>
      have hbound := keepsPolling_length h
      rw [List.length_cons]
      omega
  refine ⟨301 - l.length, ?_⟩
  rw [← prewaitLoop_keepsPolling h]
  congr 1
  unfold prewaitFuel
  omega

end Poll

theorem prewait_signal {s : State} (i : Nat) (h : s.sigCancel = true) :
    prewait i s = .error (.raise (.dfuCancelled i)) (s.dfuAt s.cur (.preWait i)) := by
  unfold prewait
  rw [Op.bind_ok (setDfu_run _ s), Op.bind_ok (Op.get_run _),
    if_pos (show (s.dfuAt s.cur (.preWait i)).sigCancel = true from h), raise_run]

theorem prewait_rests {s s0 : State} {p : Susp} {i : Nat} (hs : s0 = s.dfuAt s.cur (.preWait i)) (h : s.sigCancel = false)
    (hp : s0.rests p dfuPreSleepMs) :
    prewait i s = prewaitLoop i (s0.didSleep p dfuPreSleepMs).now prewaitFuel (s0.didSleep p dfuPreSleepMs) := by
  subst hs
  unfold prewait
  rw [Op.bind_ok (setDfu_run _ s), Op.bind_ok (Op.get_run _),
    if_neg (show ¬(s.dfuAt s.cur (.preWait i)).sigCancel = true by simpa using h), Op.bind_ok (sleep_rests hp),
    Op.bind_ok (clock_run _)]

/-- Settles O44: the wait comes to the poll in hand, which ends it as its status says. -/
theorem prewaitFollows : Obligations.PrewaitFollows := by
  unfold Obligations.PrewaitFollows
  intro s s0 i hs0
  refine ⟨fun hsig => ?signal, fun hsig p hp l u hl hu => ?polls⟩
  case signal =>
    subst hs0
    exact doing_raise (prewait_signal i hsig)
  case polls =>
    obtain ⟨k, hreaches⟩ := prewaitLoop_reaches (i := i) hl
    rw [← hu] at hreaches
    have hrun : prewait i s = prewaitLoop i (s0.didSleep p 100).now (k + 1) u := (prewait_rests hs0 hsig hp).trans hreaches
    refine ⟨fun e v h => ?transport, fun d st h => ⟨fun hst => doing_ok (hrun.trans (prewaitLoop_ready h ?_)),
      fun hst => doing_raise (hrun.trans (prewaitLoop_fatal h ?_)),
      fun hl hu => doing_raise (hrun.trans (prewaitLoop_fatal h (classify_status hl hu))),
      fun hst => doing_raise (hrun.trans (prewaitLoop_fatal h (classify_unknown hst))),
      fun hst hlimit => doing_raise (hrun.trans (prewaitLoop_timeout h (classify_waiting hst) hlimit)),
      fun hst hlimit hsignal => doing_raise (hrun.trans (prewaitLoop_cancelled h (classify_waiting hst) hlimit hsignal))⟩⟩
    case transport =>
      obtain ⟨w, hraise, hw⟩ := isTransaction_dfuStatus.raises h
      rw [← hw]
      exact doing_raise (hrun.trans (prewaitLoop_raise hraise))
    · obtain rfl | rfl := hst <;> rfl
    · subst hst
      rfl

/-! One iteration of a drain (44_dfu_engine R393 to R396). -/

section Round

variable {s u v : State} {d : BusDraw} {st : Byte} {gap : Susp} {w : DrainRound} {total start k : Nat}

theorem drainLoop_raise {e : Exc} (h : dfuStatus s = .error e v) : drainLoop total start (k + 1) s = .error e v :=
  Op.bind_error h

theorem drainLoop_fatal {e : Err} (h : s.reads d 0x41 1 [st]) (hst : classifyDrain st = some e) :
    drainLoop total start (k + 1) s = .error (.raise e) (s.polled d st) := by
  rw [drainLoop, Op.bind_ok (dfuStatus_reads h), hst]
  rfl

theorem classifyDrain_going (hl : 1 ≤ st.toNat) (hu : st.toNat ≤ 4) : classifyDrain st = none := by
  unfold classifyDrain
  grind

theorem classifyDrain_status (hl : 5 ≤ st.toNat) (hu : st.toNat ≤ 8) : classifyDrain st = some (.dfuStatus st) := by
  unfold classifyDrain
  grind

theorem classifyDrain_unknown (h : 9 ≤ st.toNat) : classifyDrain st = some (.dfuUnknown st) := by
  unfold classifyDrain
  grind

/-- What follows the count in an iteration of a drain that read `st` and `bw` (44_dfu_engine R395, R396). -/
def drainCounted (total start k : Nat) (st : Byte) (bw : Nat) : Op Unit :=
  if st = 4 ∧ bw = total then return ()
  else do
    let s ← get
    if drainTimeoutMs ≤ s.now - start then
      if st = 4 then raise (.dfuSizeMismatch bw total) else raise (.dfuTimeout .drain none)
    else do
      sleep drainIterMs
      drainLoop total start k

/-- A status that lets the drain go on: the gap, then the count. -/
theorem drainLoop_going (h : s.reads d 0x41 1 [st]) (hl : 1 ≤ st.toNat) (hu : st.toNat ≤ 4)
    (hg : (s.polled d st).rests gap drainGapMs) :
    drainLoop total start (k + 1) s =
      (dfuBw >>= drainCounted total start k st) ((s.polled d st).didSleep gap drainGapMs) := by
  rw [drainLoop, Op.bind_ok (dfuStatus_reads h), classifyDrain_going hl hu]
  exact Op.bind_ok (sleep_rests hg)

theorem drainLoop_counts (hd : s.dialect = some .two) (h : s.counts w) :
    drainLoop total start (k + 1) s = drainCounted total start k w.status w.count (s.counted w) := by
  obtain ⟨hreads, hl, hu, hgap, hcount⟩ := h
  have hbw : dfuBw ((s.polled w.draw w.status).didSleep w.gap drainGapMs) = .ok w.count (s.counted w) := by
    rw [DrainRound.count, ← decBe_word]
    exact rdu16_reads (by simp [hd]) hcount
  rw [drainLoop_going hreads hl hu hgap, Op.bind_ok hbw]

theorem drainCounted_done {bw : Nat} (h : st = 4) (hc : bw = total) : drainCounted total start k st bw s = .ok () s := by
  rw [drainCounted, if_pos ⟨h, hc⟩, Op.pure_run]

/-! An iteration that did not succeed: the limit, then the pause. -/

theorem drainCounted_mismatch {bw : Nat} (h : st = 4) (hc : bw ≠ total) (hl : drainTimeoutMs ≤ s.now - start) :
    drainCounted total start k st bw s = .error (.raise (.dfuSizeMismatch bw total)) s := by
  rw [drainCounted, if_neg fun hdone => hc hdone.2]
  exact (Op.bind_ok (Op.get_run s)).trans (by rw [if_pos hl, if_pos h, raise_run])

theorem drainCounted_timeout {bw : Nat} (h : st ≠ 4) (hl : drainTimeoutMs ≤ s.now - start) :
    drainCounted total start k st bw s = .error (.raise (.dfuTimeout .drain none)) s := by
  rw [drainCounted, if_neg fun hdone => h hdone.1]
  exact (Op.bind_ok (Op.get_run s)).trans (by rw [if_pos hl, if_neg h, raise_run])

theorem drainCounted_again {bw : Nat} (h : ¬(st = 4 ∧ bw = total)) (hl : s.now - start < drainTimeoutMs) :
    drainCounted total start k st bw s = (sleep drainIterMs >>= fun _ => drainLoop total start k) s := by
  rw [drainCounted, if_neg h]
  exact (Op.bind_ok (Op.get_run s)).trans (by rw [if_neg (Nat.not_le.mpr hl)])

/-! Iterations that do not end the drain. -/

@[simp] theorem State.counted_now (s : State) (w : DrainRound) :
    (s.counted w).now = s.now + w.draw.susp.dur + (100 + w.gap.dur) + w.countDraw.susp.dur := by
  simp [State.counted]

@[simp] theorem State.counted_dialect (s : State) (w : DrainRound) : (s.counted w).dialect = s.dialect := by
  simp [State.counted]

theorem State.afterRounds_dialect (s : State) (l : List DrainRound) : (s.afterRounds l).dialect = s.dialect := by
  induction l generalizing s with
  | nil => rfl
  | cons w l ih => rw [State.afterRounds, ih, State.didSleep_dialect, State.counted_dialect]

/-- Iterations that do not end the drain use one unit of fuel each. -/
theorem drainLoop_keepsDraining {l : List DrainRound} (hd : s.dialect = some .two) (h : s.keepsDraining start total l) :
    drainLoop total start (l.length + k) s = drainLoop total start k (s.afterRounds l) := by
  induction l generalizing s with
  | nil => rw [List.length_nil, Nat.zero_add]; rfl
  | cons w l ih =>
    obtain ⟨hcounts, hgoing, hlimit, hrests, hrest⟩ := h
    rw [List.length_cons, Nat.add_right_comm, drainLoop_counts hd hcounts, drainCounted_again hgoing hlimit]
    exact (Op.bind_ok (sleep_rests hrests)).trans (ih (by simp [hd]) hrest)

/-- Each iteration with its pause lasts 600 ms or more, so the limit bounds the iterations (log 28). -/
theorem keepsDraining_length {w : DrainRound} {l : List DrainRound} (h : s.keepsDraining start total (w :: l)) :
    s.now + 600 * l.length < start + 5000 := by
  induction l generalizing s w with
  | nil =>
    obtain ⟨-, -, hlimit, -⟩ := h
    rw [State.counted_now] at hlimit
    rw [List.length_nil]
    omega
  | cons x l ih =>
    obtain ⟨-, -, -, -, hrest⟩ := h
    have hlater := ih hrest
    rw [State.didSleep_now, State.counted_now] at hlater
    rw [List.length_cons]
    omega

/-- The fuel of a drain lasts beyond every iteration before the limit (log 28). -/
theorem drainLoop_reaches {l : List DrainRound} (hd : s.dialect = some .two) (h : s.keepsDraining s.now total l) :
    ∃ k, drainLoop total s.now drainFuel s = drainLoop total s.now (k + 1) (s.afterRounds l) := by
  have hfuel : l.length ≤ 10 := by
    cases l with
    | nil => exact Nat.zero_le _
    | cons w l =>
      have hbound := keepsDraining_length h
      rw [List.length_cons]
      omega
  refine ⟨10 - l.length, ?_⟩
  rw [← drainLoop_keepsDraining hd h]
  congr 1
  unfold drainFuel
  omega

end Round

/-- Settles O45: the drain comes to the iteration in hand, which ends it as its status and its count say. -/
theorem drainFollows : Obligations.DrainFollows := by
  unfold Obligations.DrainFollows
  intro s u total l hd hl hu
  obtain ⟨k, hreaches⟩ := drainLoop_reaches (s := s.dfuAt s.cur .drain) hd hl
  rw [← hu] at hreaches
  have hdialect : u.dialect = some .two := by
    rw [hu, State.afterRounds_dialect]
    exact hd
  have hrun : drain total s = drainLoop total s.now (k + 1) u := hreaches
  refine ⟨fun e v h => ?status, fun d st gap e v h hmin hmax hgap hfails => ?count, fun d st h =>
    ⟨fun hst => doing_raise (hrun.trans (drainLoop_fatal h ?_)),
      fun hl hu => doing_raise (hrun.trans (drainLoop_fatal h (classifyDrain_status hl hu))),
      fun hst => doing_raise (hrun.trans (drainLoop_fatal h (classifyDrain_unknown hst)))⟩,
    fun w hw => ?counted⟩
  case status =>
    obtain ⟨w, hraise, hw⟩ := isTransaction_dfuStatus.raises h
    rw [← hw]
    exact doing_raise (hrun.trans (drainLoop_raise hraise))
  case count =>
    obtain ⟨w, hraise, hw⟩ := isTransaction_dfuBw.raises hfails
    rw [← hw]
    exact doing_raise (hrun.trans ((drainLoop_going h hmin hmax hgap).trans (Op.bind_error hraise)))
  case counted =>
    have hcounted := hrun.trans (drainLoop_counts hdialect hw)
    refine ⟨fun hst hc => doing_ok (hcounted.trans (drainCounted_done hst hc)),
      fun hst hc hlimit => doing_raise (hcounted.trans (drainCounted_mismatch hst hc hlimit)),
      fun hst hlimit => doing_raise (hcounted.trans (drainCounted_timeout hst hlimit))⟩
  · subst hst
    rfl

end Sys2Proof.Machine
end

section
/-! PROOFS. What a session shows: its writes and its progress reports, in order, whatever is answered and whatever lands. -/

namespace Sys2Proof.Machine

/-! The marks of a run. -/

/-- A write attempt or a progress report: what the rules of a session speak of (44_dfu_engine R391, R402). -/
def Event.isMark : Event → Bool
  | .write _ _ _ => true
  | .progress _ _ _ => true
  | _ => false

/-- From `s` to `u` the trace has grown by events whose marks are of `X`. -/
def State.marks (s : State) (X : List Event → Prop) (u : State) : Prop :=
  ∃ l, u.trace = s.trace ++ l ∧ X ((l.map Prod.snd).filter Event.isMark)

section Marks

variable {s u v : State} {X Y : List Event → Prop} {e : Event} {n : Nat}

theorem State.marks_refl (h : X []) : s.marks X s := ⟨[], by simp, h⟩

theorem State.marks.mono (h : s.marks X u) (hXY : ∀ es, X es → Y es) : s.marks Y u := by
  obtain ⟨l, hl, hX⟩ := h
  exact ⟨l, hl, hXY _ hX⟩

theorem State.marks.quiet (h : s.marks X u) (hv : v.trace = u.trace) : s.marks X v := by
  obtain ⟨l, hl, hX⟩ := h
  exact ⟨l, hv.trans hl, hX⟩

/-- An event that is no mark leaves the marks as they are. -/
theorem State.marks.other (h : s.marks X u) (he : e.isMark = false) (hv : v.trace = u.trace ++ [(n, e)]) : s.marks X v := by
  obtain ⟨l, hl, hX⟩ := h
  exact ⟨l ++ [(n, e)], by rw [hv, hl, List.append_assoc], by simpa [he] using hX⟩

theorem State.marks.mark (h : s.marks X u) (he : e.isMark = true) (hv : v.trace = u.trace ++ [(n, e)])
    (hXY : ∀ es, X es → Y (es ++ [e])) : s.marks Y v := by
  obtain ⟨l, hl, hX⟩ := h
  exact ⟨l ++ [(n, e)], by rw [hv, hl, List.append_assoc], by simpa [he] using hXY _ hX⟩

/-- What lands at a suspension point is a signal, a request or a reply (60_exceptions R605). -/
theorem State.lasts_marks (s : State) (X : List Event → Prop) : Lasts (s.marks X) := by
  intro u v hu l
  cases l with
  | signal k => exact hu.other (e := .signal k) rfl rfl
  | request w => exact hu.other (e := .request u.nextReq w) rfl rfl
  | reply a r => exact hu.other (e := .reply a r) rfl rfl
  | time | answer | wait | tick | nap => exact hu.quiet rfl

/-- The marks are those of the new events. -/
theorem State.marks.newEvents (h : s.marks X u) : X ((s.newEvents u).filter Event.isMark) := by
  obtain ⟨l, hl, hX⟩ := h
  rwa [State.newEvents_append hl]

end Marks

/-! What is seen of the new events is seen of their marks. -/

section Seen

variable (es : List Event) (r : Byte)

theorem filter_isBlockDone_marks : (es.filter Event.isMark).filter Event.isBlockDone = es.filter Event.isBlockDone := by
  rw [List.filter_filter]
  congr 1
  funext e
  cases e <;> simp [Event.isBlockDone, Event.isMark]

theorem filter_isWriteTo_marks : (es.filter Event.isMark).filter (Event.isWriteTo r) = es.filter (Event.isWriteTo r) := by
  rw [List.filter_filter]
  congr 1
  funext e
  cases e <;> simp [Event.isWriteTo, Event.isMark]

theorem filterMap_writtenTo_marks : (es.filter Event.isMark).filterMap (Event.writtenTo r) = es.filterMap (Event.writtenTo r) := by
  rw [List.filterMap_filter]
  congr 1
  funext e
  cases e <;> rfl

theorem forall_not_isWriteTo_marks (h : ∀ e ∈ es.filter Event.isMark, e.isWriteTo r = false) : ∀ e ∈ es, e.isWriteTo r = false := by
  intro e he
  cases hm : e.isMark with
  | true => exact h e (List.mem_filter.mpr ⟨he, hm⟩)
  | false =>
    cases e with
    | write | progress => cases hm
    | _ => rfl

end Seen

/-! The course of a session. -/

/-- The registers of the power machine, with the dialect, the last snapshot and the exit code. -/
def State.powerFace (s : State) :
    FsmState × Option Nat × Option Nat × Bool × Bool × Option Snapshot × Option Dialect × Option (Fin 3) :=
  (s.fsm, s.t0, s.lastFed, s.step1Done, s.intent, s.measLast, s.dialect, s.exitCode)

/-- The registers that a session leaves alone: those of the power machine, the lock, the image, the bus and the parameters. -/
def State.sessionFace (s : State) :
    (FsmState × Option Nat × Option Nat × Bool × Bool × Option Snapshot × Option Dialect × Option (Fin 3)) ×
      Option Agent × Agent × List Byte × Bool × Params :=
  (s.powerFace, s.holder, s.cur, s.dfuImage, s.busOpen, s.par)

theorem State.sessionFace_eq {s u : State} (h : u.sessionFace = s.sessionFace) : u.powerFace = s.powerFace ∧
    u.holder = s.holder ∧ u.cur = s.cur ∧ u.dfuImage = s.dfuImage ∧ u.busOpen = s.busOpen ∧ u.par = s.par := by
  simpa [State.sessionFace] using h

theorem State.powerFace_eq {s u : State} (h : u.powerFace = s.powerFace) : u.fsm = s.fsm ∧ u.t0 = s.t0 ∧ u.lastFed = s.lastFed ∧
    u.step1Done = s.step1Done ∧ u.intent = s.intent ∧ u.measLast = s.measLast ∧ u.dialect = s.dialect ∧
    u.exitCode = s.exitCode := by
  simpa [State.powerFace] using h

theorem steady_sessionFace (s : State) : Steady fun u => u.sessionFace = s.sessionFace :=
  ⟨fun h l => by cases l <;> exact h, id, id⟩

/-- `u` comes after `s` in the course of a session that has shown marks of `X`. -/
def State.course (s : State) (X : List Event → Prop) (u : State) : Prop := s.marks X u ∧ u.sessionFace = s.sessionFace

/-- In `s` no read goes through a fixed dialect-1 sequence (40_transport R209). -/
def State.readsFreely (s : State) : Prop := s.dialect = some .two ∨ s.par.dialect1 = .unfixed

/-- `P` is kept by all that lands, by the draws, by what becomes of the companion, the engines and the session's memory, and by every
event that is no mark; and in `P` no read goes through a fixed dialect-1 sequence. -/
structure Unmarked (P : State → Prop) : Prop where
  lands : Lasts P
  emits : ∀ {s : State} {e : Event}, e.isMark = false → P s → P (s.emit e)
  ports : ∀ {s : State} {p : Inputs} {c : Companion} {ps : List (Agent × DfuPoint)}, P s → P { s with inp := p, comp := c, pcDfu := ps }
  session : ∀ {s : State} {f : Session → Session}, P s → P { s with session := s.session.map f }
  reads : ∀ {s : State}, P s → s.readsFreely

theorem State.unmarked_course {s : State} (h : s.readsFreely) (X : List Event → Prop) : Unmarked (s.course X) where
  lands := Lasts.and (s.lasts_marks X) (steady_sessionFace s).lands
  emits := fun he ⟨hm, hf⟩ => ⟨hm.other he rfl, hf⟩
  ports := fun ⟨hm, hf⟩ => ⟨hm.quiet rfl, hf⟩
  session := fun ⟨hm, hf⟩ => ⟨hm.quiet rfl, hf⟩
  reads := fun {u} ⟨_, hf⟩ => by
    obtain ⟨hpower, -, -, -, -, hp⟩ := State.sessionFace_eq hf
    obtain ⟨-, -, -, -, -, -, hd, -⟩ := State.powerFace_eq hpower
    unfold State.readsFreely
    rwa [hd, hp]

/-! A retry loop whose failed attempts are followed. -/

/-- What a transaction with `k` retries left comes to, where `P fs` follows the failures `fs` so far: with at most `k` more it
succeeds, or with at most `k + 1` more it raises a transport error (40_transport R203). -/
theorem meets_retryLoop {α : Type} {t : Op (Except Failure α)} {P : List Failure → State → Prop}
    {Q : List Failure → α → State → Prop}
    (ht : ∀ fs, Meets True (P fs) t (fun r u => match r with | .ok v => Q fs v u | .error f => P (fs ++ [f]) u)
      (fun _ _ => False) fun _ => False)
    (hs : ∀ fs, Meets True (P fs) (sleep retryBackoffMs) (fun _ => P fs) (fun _ _ => False) fun _ => False) (k : Nat)
    (fs : List Failure) :
    Meets True (P fs) (retryLoop t k) (fun v u => ∃ gs, gs.length ≤ k ∧ Q (fs ++ gs) v u)
      (fun e u => (∃ f, e = .transport f) ∧ ∃ gs, 1 ≤ gs.length ∧ gs.length ≤ k + 1 ∧ P (fs ++ gs) u) fun _ => False := by
  have first : Meets True (P fs) t (fun r u => match r with | .ok v => Q fs v u | .error f => P (fs ++ [f]) u)
      (fun e u => (∃ f, e = .transport f) ∧ ∃ gs, 1 ≤ gs.length ∧ gs.length ≤ k + 1 ∧ P (fs ++ gs) u) fun _ => False :=
    (ht fs).mono (fun _ _ => id) (fun _ _ => False.elim) fun _ => id
  have raised (f : Failure) (u : State) (hu : P (fs ++ [f]) u) : ∃ gs, 1 ≤ gs.length ∧ gs.length ≤ k + 1 ∧ P (fs ++ gs) u :=
    ⟨[f], le_rfl, Nat.succ_le_succ (Nat.zero_le k), hu⟩
  induction k generalizing fs with
  | zero =>
    refine meets_bind first fun r => ?_
    cases r with
    | ok v => exact meets_pure fun u hu => ⟨[], le_rfl, by simpa using hu⟩
    | error f =>
      exact meets_ite (fun _ => meets_raise fun u hu => ⟨⟨_, rfl⟩, raised f u hu⟩) fun _ =>
        meets_raise fun u hu => ⟨⟨_, rfl⟩, raised f u hu⟩
  | succ k ih =>
    refine meets_bind first fun r => ?_
    cases r with
    | ok v => exact meets_pure fun u hu => ⟨[], Nat.zero_le _, by simpa using hu⟩
    | error f =>
      refine meets_ite (fun _ => meets_raise fun u hu => ⟨⟨_, rfl⟩, raised f u hu⟩) fun _ =>
        meets_bind ((hs (fs ++ [f])).mono (fun _ _ => id) (fun _ _ => False.elim) fun _ => id) fun _ => ?_
      refine (ih (fs ++ [f]) ((ht _).mono (fun _ _ => id) (fun _ _ => False.elim) fun _ => id) ?_).mono ?_ ?_ fun _ => id
      · exact fun g u hu => ⟨[g], le_rfl, Nat.succ_le_succ (Nat.zero_le k), hu⟩
      · rintro v u ⟨gs, hlen, hQ⟩
        exact ⟨f :: gs, Nat.succ_le_succ hlen, by simpa using hQ⟩
      · rintro e u ⟨he, gs, hpos, hlen, hP⟩
        exact ⟨he, f :: gs, by simp, Nat.succ_le_succ hlen, by simpa using hP⟩

section Unmarks

variable {α : Type} {P : State → Prop} {R : Err → State → Prop} {W : State → Prop}

theorem Unmarked.suspend (h : Unmarked P) (ms : Nat) (p : Susp) : Meets True P (suspend ms p) (fun _ => P) R W := by
  intro s hs
  obtain ⟨till, -, -, e⟩ | e := suspend_cases ms p s
  · rw [e]
    trivial
  · rw [e]
    exact Lasts.elapse h.lands hs _ _

theorem Unmarked.emit (h : Unmarked P) {e : Event} (he : e.isMark = false) : Meets True P (emit e) (fun _ => P) R W :=
  fun _ hs => h.emits he hs

theorem Unmarked.draw (h : Unmarked P) {x : Op α} (hx : Draws x) : Meets True P x (fun _ => P) R W :=
  hx.meets fun _ _ _ hs => h.ports hs

theorem Unmarked.setDfu (h : Unmarked P) (p : DfuPoint) : Meets True P (setDfu p) (fun _ => P) R W := fun _ hs => h.ports hs

theorem Unmarked.sleep (h : Unmarked P) (ms : Nat) : Meets True P (sleep ms) (fun _ => P) R W :=
  meets_bind (h.emit rfl) fun _ => meets_bind (h.draw draws_popSleep) fun _ => h.suspend _ _

/-! Reads. -/

theorem meets_guardBus : Meets True P guardBus (fun _ => P) R W := by
  intro s hs
  obtain h | ⟨f, h⟩ := guardBus_ok_or_stop s
  · rw [h]
    exact hs
  · rw [h]
    trivial

theorem Unmarked.memRead (h : Unmarked P) (r : Byte) (n : Nat) : Meets True P (memRead r n) (fun _ => P) R W :=
  meets_bind meets_guardBus fun _ => meets_bind (h.draw draws_popBus) fun _ => meets_bind (h.suspend _ _) fun _ =>
    fun s hs => h.emits (s := { s with comp := _ }) (e := .read r n _) rfl (h.ports hs)

theorem Unmarked.rdreg (h : Unmarked P) (r : Byte) (n : Nat) : Transacts True P (rdreg r n) := by
  refine (meets_retryLoop (P := fun _ => P) (Q := fun _ _ => P) (fun _ => (h.memRead r n).mono ?_ (fun _ _ => id) fun _ => id)
    (fun _ => h.sleep _) retryMax []).mono ?_ ?_ fun _ => id
  · intro res u hu
    cases res <;> exact hu
  · exact fun _ _ ⟨_, _, hu⟩ => hu
  · exact fun _ _ ⟨he, _, _, _, hu⟩ => ⟨he, hu⟩

theorem Unmarked.traffic (h : Unmarked P) : Meets True P traffic (fun _ => P) R W := fun _ hs => h.ports hs

theorem Unmarked.unstatedTrace (h : Unmarked P) (l : List Susp) : Meets True P (unstatedTrace l) (fun _ => P) R W := by
  induction l with
  | nil => exact meets_pure fun _ => id
  | cons p rest ih => exact meets_bind (h.suspend _ _) fun _ => meets_bind h.traffic fun _ => ih

theorem Unmarked.unfixedDialect1 (h : Unmarked P) (r : Byte) : Transacts True P (unfixedDialect1 r) :=
  meets_bind meets_guardBus fun _ => meets_bind (h.draw draws_popDialect1) fun _ => meets_bind (h.unstatedTrace _) fun _ =>
    meets_bind (h.suspend _ _) fun _ => meets_bind (h.emit rfl) fun _ => by
      split
      · exact meets_bind h.traffic fun _ => transacts_pure _
      · exact transacts_raise

theorem Unmarked.rdu16 (h : Unmarked P) (r : Byte) : Transacts True P (rdu16 r) := by
  intro s hs
  cases hd : s.dialect with
  | none =>
    rw [rdu16_noDialect r hd]
    trivial
  | some d =>
    cases d with
    | one =>
      rw [rdu16_dialect1 hd, dialect1U16_unfixed ((h.reads hs).resolve_left (by simp [hd]))]
      exact h.unfixedDialect1 r s hs
    | two =>
      rw [rdu16_dialect2 hd]
      exact meets_bind (h.rdreg r 2) (fun _ => transacts_pure _) s hs

/-! The waits of the engine. -/

theorem Unmarked.dfuStatus (h : Unmarked P) : Transacts True P dfuStatus :=
  meets_bind (meets_bind (h.rdreg 0x41 1) fun _ => transacts_pure _) fun _ =>
    meets_bind (meets_modify fun _ hs => h.session hs) fun _ => transacts_pure _

theorem Unmarked.prewaitLoop (h : Unmarked P) (i start k : Nat) : Runs True P (prewaitLoop i start k) := by
  induction k with
  | zero => exact runs_raise _
  | succ k ih =>
    refine meets_bind h.dfuStatus.runs fun st => ?_
    split
    · exact runs_pure _
    · exact runs_raise _
    · exact meets_bind meets_get fun _ => meets_ite (fun _ => runs_raise _) fun _ =>
        meets_ite (fun _ => runs_raise _) fun _ => meets_bind (h.sleep _) fun _ => ih

theorem Unmarked.prewait (h : Unmarked P) (i : Nat) : Runs True P (prewait i) :=
  meets_bind (h.setDfu _) fun _ => meets_bind meets_get fun _ => meets_ite (fun _ => runs_raise _) fun _ =>
    meets_bind (h.sleep _) fun _ => meets_bind meets_clock fun _ => h.prewaitLoop _ _ _

theorem Unmarked.drainLoop (h : Unmarked P) (total start k : Nat) : Runs True P (drainLoop total start k) := by
  induction k with
  | zero => exact runs_raise _
  | succ k ih =>
    refine meets_bind h.dfuStatus.runs fun st => ?_
    split
    · exact runs_raise _
    · exact meets_bind (h.sleep _) fun _ => meets_bind (h.rdu16 0x42).runs fun _ => meets_ite (fun _ => runs_pure _) fun _ =>
        meets_bind meets_get fun _ => meets_ite (fun _ => meets_ite (fun _ => runs_raise _) fun _ => runs_raise _) fun _ =>
          meets_bind (h.sleep _) fun _ => ih

theorem Unmarked.drain (h : Unmarked P) (total : Nat) : Runs True P (drain total) :=
  meets_bind (h.setDfu _) fun _ => meets_bind meets_clock fun _ => h.drainLoop _ _ _

end Unmarks

/-! Writes. -/

/-- The attempts of a write transaction that failed so. -/
def failedWrites (r : Byte) (data : List Byte) (fs : List Failure) : List Event := fs.map fun f => .write r data (.error f)

/-- The marks once a write was attempted: those before it, its failures, and its end. -/
def afterWrite (r : Byte) (data : List Byte) (X : List Event → Prop) (fs : List Failure) (last : List Event) (es : List Event) : Prop :=
  ∃ es', X es' ∧ es = es' ++ failedWrites r data fs ++ last

section CourseWrites

variable {s : State} {X : List Event → Prop} {R : Err → State → Prop} {W : State → Prop}

theorem State.course.mono {u : State} {Y : List Event → Prop} (h : s.course X u) (hXY : ∀ es, X es → Y es) : s.course Y u :=
  ⟨h.1.mono hXY, h.2⟩

/-- A write attempt that is answered is the next mark. -/
theorem memWrite_course (hr : s.readsFreely) (r : Byte) (data : List Byte) :
    Meets True (s.course X) (memWrite r data) (fun res => s.course fun es => ∃ es', X es' ∧ es = es' ++ [.write r data res]) R W := by
  have hX := s.unmarked_course hr X
  refine meets_bind meets_guardBus fun _ => meets_bind (hX.draw draws_popBus) fun _ =>
    meets_bind (hX.suspend _ _).onCut fun _ => fun u ⟨hm, hf⟩ => ⟨?_, hf⟩
  exact hm.mark (e := .write r data _) rfl rfl fun es hes => ⟨es, hes, rfl⟩

/-- All that a write transaction shows: at most three failures and the success, or one to four failures (40_transport R203). -/
theorem wrreg_course (hr : s.readsFreely) (r : Byte) (data : List Byte) :
    Meets True (s.course X) (wrreg r data)
      (fun _ u => ∃ fs, fs.length ≤ 3 ∧ s.course (afterWrite r data X fs [.write r data (.ok ())]) u)
      (fun e u => (∃ f, e = .transport f) ∧ ∃ fs, 1 ≤ fs.length ∧ fs.length ≤ 4 ∧ s.course (afterWrite r data X fs []) u)
      fun _ => False := by
  have hloop := meets_retryLoop (t := memWrite r data) (P := fun fs => s.course (afterWrite r data X fs []))
    (Q := fun fs _ => s.course (afterWrite r data X fs [.write r data (.ok ())]))
    (fun fs => (memWrite_course hr r data).mono (fun res u hu => ?_) (fun _ _ => id) fun _ => id)
    (fun fs => (s.unmarked_course hr _).sleep _) retryMax []
  · exact hloop.pre fun u hu => hu.mono fun es hes => ⟨es, hes, by simp [failedWrites]⟩
  · cases res with
    | ok v =>
      refine hu.mono ?_
      rintro _ ⟨_, ⟨es, hes, rfl⟩, rfl⟩
      exact ⟨es, hes, by simp⟩
    | error f =>
      refine hu.mono ?_
      rintro _ ⟨_, ⟨es, hes, rfl⟩, rfl⟩
      exact ⟨es, hes, by simp [failedWrites]⟩

end CourseWrites

end Sys2Proof.Machine
end

section
/-! PROOFS. A session along every course it can take, and the upload around it (O49). -/

namespace Sys2Proof.Machine

/-! The parts of an upload, by name. -/

/-- The lock is taken and the session record made (44_dfu_engine R382, R383). -/
def State.inSession (s : State) (image : List Byte) : State :=
  { s.takeLock with
    dfuImage := image
    session := some { totalSize := image.length, blockSize := blockSize, totalBlocks := blockCount image.length,
                      next := 0, lastStatus := none } }

/-- The session record is destroyed and the lock released, the engine is done (10_state R51, 44_dfu_engine R380). -/
def State.sessionOver (s : State) : State := { s with session := none, dfuImage := [] }.dropLock.dfuAt s.cur .done

/-- What follows the session: its end, or the abort, the end and the session's error (44_dfu_engine R399). -/
def closeSession : Except Err Unit → Op Unit
  | .ok _ => endSession
  | .error e => do
    abortSeq
    endSession
    raise e

theorem dfuUpload_legal {k : Hold} {image : List Byte} (h : imageSizeLegal image.length = true) (s : State) :
    dfuUpload k image s = uploadFrom k image (s.dfuAt s.cur .validate) := by
  unfold dfuUpload
  rw [Op.bind_ok (setDfu_run _ s), if_pos h]

theorem uploadFrom_eq {k : Hold} {image : List Byte} {s : State} (h : s.canLock) :
    uploadFrom k image s = (attempt (sessionBody image.length) >>= closeSession) (s.inSession image) := by
  unfold uploadFrom
  rw [Op.bind_ok (acquire_free k h), Op.bind_ok (Op.modify_run _ _)]
  rfl

theorem endSession_holder {s : State} (h : s.holder = some s.cur) : endSession s = .ok () s.sessionOver := by
  unfold endSession
  rw [Op.bind_ok (Op.modify_run _ s)]
  exact Op.bind_ok (unlock_holder (s := { s with session := none, dfuImage := [] }) h)

/-! Marks of writes. -/

section WriteMarks

variable (r q : Byte) (data : List Byte) (fs : List Failure)

@[simp] theorem failedWrites_filter_isBlockDone : (failedWrites r data fs).filter Event.isBlockDone = [] := by
  simp [failedWrites, List.filter_map, Function.comp_def, Event.isBlockDone]

@[simp] theorem failedWrites_filterMap_writtenTo : (failedWrites r data fs).filterMap (Event.writtenTo q) = [] := by
  simp [failedWrites, Event.writtenTo, List.filterMap_map, Function.comp_def]

theorem failedWrites_isWriteTo (h : r ≠ q) : ∀ e ∈ failedWrites r data fs, e.isWriteTo q = false := by
  simp [failedWrites, Event.isWriteTo, h]

@[simp] theorem failedWrites_length : (failedWrites r data fs).length = fs.length := by
  simp [failedWrites]

end WriteMarks

theorem blocksDone_succ (a : Agent) (image : List Byte) (blocks k : Nat) :
    blocksDone a image blocks (k + 1) =
      blocksDone a image blocks k ++ [.write 0x43 (frameBytes k (blockAt image k)) (.ok ())] ++ [.progress a (k + 1) blocks] := by
  simp [blocksDone, List.range_succ]

/-! The commit and abort writes, raw. -/

theorem dfuCommit_eq : dfuCommit = wrreg 0x44 [0x00] := wruN_eq (k := 1) (v := 0) 0x44 (by decide)

theorem dfuAbort_eq : dfuAbort = wrreg 0x45 [0x00] := wruN_eq (k := 1) (v := 0) 0x45 (by decide)

/-! What the marks of a session are, stage by stage. -/

section Stages

/-- Of the block writes and reports exactly `done`, no commit and no abort (44_dfu_engine R390, R391). -/
def sending (done : List Event) (es : List Event) : Prop :=
  es.filter Event.isBlockDone = done ∧ ∀ e ∈ es, e.isWriteTo 0x44 = false ∧ e.isWriteTo 0x45 = false

/-- Of the block writes and reports exactly `done`, one commit that succeeded and no abort (44_dfu_engine R402). -/
def committed (done : List Event) (es : List Event) : Prop :=
  es.filter Event.isBlockDone = done ∧ es.filterMap (Event.writtenTo 0x44) = [[0x00]] ∧ ∀ e ∈ es, e.isWriteTo 0x45 = false

/-- Of the block writes and reports an initial part, no commit that succeeded, and none attempted unless `err` is a transport error
(44_dfu_engine R399). -/
def broken (part : Nat → List Event) (blocks : Nat) (err : Err) (es : List Event) : Prop :=
  (∃ k ≤ blocks, es.filter Event.isBlockDone = part k) ∧ es.filterMap (Event.writtenTo 0x44) = [] ∧
    ((∀ e, err ≠ .transport e) → ∀ e ∈ es, e.isWriteTo 0x44 = false)

/-- Such marks, and after them from one to four attempts of the abort write (44_dfu_engine R400). -/
def aborted (part : Nat → List Event) (blocks : Nat) (err : Err) (es : List Event) : Prop :=
  broken part blocks err es ∧ 1 ≤ (es.filter (Event.isWriteTo 0x45)).length ∧ (es.filter (Event.isWriteTo 0x45)).length ≤ 4

variable {part : Nat → List Event} {done es fs : List Event} {blocks k : Nat} {err : Err}

theorem sending_nil : sending [] [] := ⟨rfl, by simp⟩

/-- Further marks that are no commit and no abort. -/
theorem sending.append (h : sending done es) (hf : ∀ e ∈ fs, e.isWriteTo 0x44 = false ∧ e.isWriteTo 0x45 = false) :
    sending (done ++ fs.filter Event.isBlockDone) (es ++ fs) := by
  obtain ⟨hdone, hno⟩ := h
  exact ⟨by rw [List.filter_append, hdone], List.forall_mem_append.mpr ⟨hno, hf⟩⟩

theorem sending.failed (h : sending done es) {r : Byte} (h44 : r ≠ 0x44) (h45 : r ≠ 0x45) (data : List Byte) (fs : List Failure) :
    sending done (es ++ failedWrites r data fs) := by
  have happend := h.append (fs := failedWrites r data fs) fun e he =>
    ⟨failedWrites_isWriteTo r 0x44 data fs h44 e he, failedWrites_isWriteTo r 0x45 data fs h45 e he⟩
  simpa using happend

theorem filterMap_writtenTo_eq_nil {r : Byte} (h : ∀ e ∈ es, e.isWriteTo r = false) : es.filterMap (Event.writtenTo r) = [] := by
  rw [List.filterMap_eq_nil_iff]
  intro e he
  have hno := h e he
  cases e with
  | write q data res =>
    have hq : q ≠ r := by simpa [Event.isWriteTo] using hno
    cases res <;> simp [Event.writtenTo, hq]
  | _ => rfl

theorem sending.broken (h : sending (part k) es) (hk : k ≤ blocks) (err : Err) :
    broken part blocks err es ∧ ∀ e ∈ es, e.isWriteTo 0x45 = false := by
  obtain ⟨hdone, hno⟩ := h
  exact ⟨⟨⟨k, hk, hdone⟩, filterMap_writtenTo_eq_nil fun e he => (hno e he).1, fun _ e he => (hno e he).1⟩,
    fun e he => (hno e he).2⟩

/-- The commit write succeeded. -/
theorem sending.committed (h : sending done es) (fs : List Failure) :
    committed done (es ++ failedWrites 0x44 [0x00] fs ++ [.write 0x44 [0x00] (.ok ())]) := by
  obtain ⟨hdone, hno⟩ := h
  refine ⟨by simp [hdone, Event.isBlockDone], ?_, ?_⟩
  · rw [List.filterMap_append, List.filterMap_append, filterMap_writtenTo_eq_nil fun e he => (hno e he).1,
      failedWrites_filterMap_writtenTo]
    rfl
  · refine List.forall_mem_append.mpr ⟨List.forall_mem_append.mpr ⟨fun e he => (hno e he).2, ?_⟩, by simp [Event.isWriteTo]⟩
    exact failedWrites_isWriteTo 0x44 0x45 [0x00] fs (by decide)

/-- The commit write failed, which is a transport error. -/
theorem sending.commitFailed (h : sending (part k) es) (hk : k ≤ blocks) (f : TransportError) (fs : List Failure) :
    Machine.broken part blocks (.transport f) (es ++ failedWrites 0x44 [0x00] fs) ∧
      ∀ e ∈ es ++ failedWrites 0x44 [0x00] fs, e.isWriteTo 0x45 = false := by
  obtain ⟨hdone, hno⟩ := h
  refine ⟨⟨⟨k, hk, by simp [hdone]⟩, ?_, fun hne => absurd rfl (hne f)⟩, List.forall_mem_append.mpr ⟨fun e he => (hno e he).2, ?_⟩⟩
  · rw [List.filterMap_append, filterMap_writtenTo_eq_nil fun e he => (hno e he).1, failedWrites_filterMap_writtenTo]
    rfl
  · exact failedWrites_isWriteTo 0x44 0x45 [0x00] fs (by decide)

/-- The attempts of the abort write are no commit and no block. -/
theorem broken.aborted (h : broken part blocks err es) (h45 : ∀ e ∈ es, e.isWriteTo 0x45 = false)
    (hf : ∀ e ∈ fs, ∃ res, e = .write 0x45 [0x00] res) (hmin : 1 ≤ fs.length) (hmax : fs.length ≤ 4) :
    aborted part blocks err (es ++ fs) := by
  obtain ⟨⟨k, hk, hdone⟩, hcommit, hnone⟩ := h
  have hblock : fs.filter Event.isBlockDone = [] := List.filter_eq_nil_iff.mpr fun e he => by
    obtain ⟨res, rfl⟩ := hf e he
    cases res <;> simp [Event.isBlockDone]
  have h44 : ∀ e ∈ fs, e.isWriteTo 0x44 = false := fun e he => by
    obtain ⟨res, rfl⟩ := hf e he
    rfl
  have hall : (es ++ fs).filter (Event.isWriteTo 0x45) = fs := by
    rw [List.filter_append, List.filter_eq_nil_iff.mpr fun e he => by rw [h45 e he]; exact Bool.false_ne_true,
      List.nil_append, List.filter_eq_self]
    intro e he
    obtain ⟨res, rfl⟩ := hf e he
    rfl
  refine ⟨⟨⟨k, hk, by rw [List.filter_append, hdone, hblock, List.append_nil]⟩, ?_, fun hne =>
    List.forall_mem_append.mpr ⟨hnone hne, h44⟩⟩, by rwa [hall], by rwa [hall]⟩
  rw [List.filterMap_append, hcommit, filterMap_writtenTo_eq_nil h44, List.nil_append]

end Stages

/-! A handler, its operation's value and its error told apart. -/

theorem meets_attempt {α : Type} {F : Prop} {P : State → Prop} {x : Op α} {Q : α → State → Prop} {R R' : Err → State → Prop}
    {W : State → Prop} (h : Meets F P x Q R W) :
    Meets F P (attempt x) (fun r t => match r with | .ok a => Q a t | .error e => R e t) R' W := by
  intro s hs
  have hend := h s hs
  unfold Machine.attempt
  split <;> simp_all [Ends]

/-! The session. -/

section Session

variable {s : State} {R : Err → State → Prop} {W : State → Prop}

/-- The block writes and reports of the first `k` blocks of the session's image. -/
def State.part (s : State) (k : Nat) : List Event := blocksDone s.cur s.dfuImage (blockCount s.dfuImage.length) k

variable (hr : s.readsFreely)

include hr

theorem dfuStart_course (n : Nat) :
    Meets True (s.course (sending [])) (dfuStart n) (fun _ => s.course (sending [])) (fun _ => s.course (sending []))
      fun _ => False := by
  refine meets_ite (fun _ => meets_ite (fun _ => (wrreg_course hr 0x40 _).mono ?_ ?_ fun _ => id) fun _ => meets_stop fun _ _ => trivial)
    fun _ => meets_raise fun _ => id
  · rintro _ u ⟨fs, -, hu⟩
    refine hu.mono ?_
    rintro _ ⟨es, hes, rfl⟩
    exact (hes.failed (by decide) (by decide) _ fs).append (fs := [.write 0x40 _ (.ok ())]) (by simp [Event.isWriteTo])
  · rintro _ u ⟨-, fs, -, -, hu⟩
    refine hu.mono ?_
    rintro _ ⟨es, hes, rfl⟩
    simpa using hes.failed (r := 0x40) (by decide) (by decide) _ fs

/-- The frame of the session's block `i`, and no report if its write failed (44_dfu_engine R390, R391). -/
theorem dfuSend_course (i : Nat) :
    Meets True (s.course (sending (s.part i))) (dfuSend i)
      (fun _ => s.course (sending (s.part i ++ [.write 0x43 (frameBytes i (blockAt s.dfuImage i)) (.ok ())])))
      (fun _ => s.course (sending (s.part i))) fun _ => False := by
  refine meets_bind ((s.unmarked_course hr _).setDfu _) fun _ => meets_get_bind fun u hu => ?_
  obtain ⟨-, -, -, himage, -, -⟩ := State.sessionFace_eq hu.2
  rw [himage]
  refine meets_bind (Q := fun f v => v = u ∧ f = frameBytes i (blockAt s.dfuImage i)) ?_ fun f => ?_
  · exact meets_ite (fun _ => meets_pure fun v hv => ⟨hv, rfl⟩) fun _ => meets_stop fun _ _ => trivial
  · rintro v ⟨rfl, rfl⟩
    refine ((wrreg_course hr 0x43 _).mono ?_ ?_ fun _ => id) _ hu
    · rintro _ u ⟨fs, -, hu⟩
      refine hu.mono ?_
      rintro _ ⟨es, hes, rfl⟩
      exact (hes.failed (by decide) (by decide) _ fs).append (fs := [.write 0x43 _ (.ok ())]) (by simp [Event.isWriteTo])
    · rintro _ u ⟨-, fs, -, -, hu⟩
      refine hu.mono ?_
      rintro _ ⟨es, hes, rfl⟩
      simpa using hes.failed (r := 0x43) (by decide) (by decide) _ fs

theorem noteProgress_course (i : Nat) :
    Meets True (s.course (sending (s.part i ++ [.write 0x43 (frameBytes i (blockAt s.dfuImage i)) (.ok ())])))
      (noteProgress i (blockCount s.dfuImage.length)) (fun _ => s.course (sending (s.part (i + 1)))) R W := by
  refine meets_bind ((s.unmarked_course hr _).setDfu _) fun _ => meets_modify fun u ⟨hm, hf⟩ => ⟨?_, hf⟩
  obtain ⟨-, -, hcur, -⟩ := State.sessionFace_eq hf
  refine hm.mark (e := .progress u.cur (i + 1) (blockCount s.dfuImage.length)) rfl rfl fun es hes => ?_
  rw [State.part, blocksDone_succ, hcur]
  exact hes.append (fs := [.progress _ _ _]) (by simp [Event.isWriteTo])

theorem sendBlocks_course (k i : Nat) :
    Meets True (s.course (sending (s.part i))) (sendBlocks (blockCount s.dfuImage.length) k i)
      (fun _ => s.course (sending (s.part (i + k)))) (fun _ u => ∃ j ≤ i + k, s.course (sending (s.part j)) u) fun _ => False := by
  induction k generalizing i with
  | zero => exact meets_pure fun _ => id
  | succ k ih =>
    refine meets_bind (((s.unmarked_course hr _).prewait i).mono (fun _ _ => id) ?_ fun _ => id) fun _ =>
      meets_bind ((dfuSend_course hr i).mono (fun _ _ => id) ?_ fun _ => id) fun _ =>
        meets_bind (noteProgress_course hr i) fun _ => (ih (i + 1)).mono ?_ ?_ fun _ => id
    · exact fun _ u hu => ⟨i, by omega, hu⟩
    · exact fun _ u hu => ⟨i, by omega, hu⟩
    · intro _ u hu
      rwa [Nat.add_right_comm, Nat.add_assoc] at hu
    · rintro _ u ⟨j, hj, hu⟩
      exact ⟨j, by omega, hu⟩

/-- What a session that raised `err` has shown. -/
def State.breaks (s : State) (err : Err) : State → Prop :=
  s.course fun es => broken s.part (blockCount s.dfuImage.length) err es ∧ ∀ e ∈ es, e.isWriteTo 0x45 = false

theorem commitSeq_course :
    Meets True (s.course (sending (s.part (blockCount s.dfuImage.length)))) commitSeq
      (fun _ => s.course (committed (s.part (blockCount s.dfuImage.length)))) s.breaks fun _ => False := by
  have hX := s.unmarked_course hr (sending (s.part (blockCount s.dfuImage.length)))
  refine meets_bind (hX.setDfu _) fun _ => meets_bind (hX.sleep _) fun _ => ?_
  rw [dfuCommit_eq]
  refine (wrreg_course hr 0x44 [0x00]).mono ?_ ?_ fun _ => id
  · rintro _ u ⟨fs, -, hu⟩
    refine hu.mono ?_
    rintro _ ⟨es, hes, rfl⟩
    exact hes.committed fs
  · rintro _ u ⟨⟨f, rfl⟩, fs, -, -, hu⟩
    refine hu.mono ?_
    rintro _ ⟨es, hes, rfl⟩
    simpa using hes.commitFailed le_rfl f fs

theorem sessionBody_course :
    Meets True (s.course (sending [])) (sessionBody s.dfuImage.length)
      (fun _ => s.course (committed (s.part (blockCount s.dfuImage.length)))) s.breaks fun _ => False := by
  have breaks {j : Nat} (hj : j ≤ blockCount s.dfuImage.length) (e : Err) {u : State} (hu : s.course (sending (s.part j)) u) :
      s.breaks e u := hu.mono fun es hes => hes.broken hj e
  have hX := s.unmarked_course hr
  refine meets_bind ((hX _).setDfu _) fun _ =>
    meets_bind ((dfuStart_course hr _).mono (fun _ _ => id) (fun e _ => breaks (j := 0) (Nat.zero_le _) e) fun _ => id) fun _ =>
      meets_bind ((sendBlocks_course hr _ 0).mono (fun _ _ => id) ?_ fun _ => id) fun _ => ?_
  · rintro e u ⟨j, hj, hu⟩
    exact breaks (by omega) e hu
  · rw [Nat.zero_add]
    exact meets_bind (((hX _).drain _).mono (fun _ _ => id) (fun e _ => breaks le_rfl e) fun _ => id) fun _ => commitSeq_course hr

/-- The abort write is attempted once at least, and its failure is ignored (44_dfu_engine R400, R401). -/
theorem abortSeq_course (err : Err) :
    Meets True (s.breaks err) abortSeq (fun _ => s.course (aborted s.part (blockCount s.dfuImage.length) err)) R fun _ => False := by
  have hX := s.unmarked_course hr fun es =>
    broken s.part (blockCount s.dfuImage.length) err es ∧ ∀ e ∈ es, e.isWriteTo 0x45 = false
  refine meets_bind (hX.setDfu _) fun _ => meets_bind (hX.sleep _) fun _ => meets_bind (Meets.attempt ?_) fun _ => meets_pure fun _ => id
  have attempts (fs : List Failure) : ∀ e ∈ failedWrites 0x45 [0x00] fs, ∃ res, e = .write 0x45 [0x00] res := by
    simp [failedWrites]
  rw [dfuAbort_eq]
  refine (wrreg_course hr 0x45 [0x00]).mono ?_ ?_ fun _ => id
  · rintro _ u ⟨fs, hmax, hu⟩
    refine hu.mono ?_
    rintro _ ⟨es, ⟨hes, h45⟩, rfl⟩
    rw [List.append_assoc]
    exact hes.aborted h45 (List.forall_mem_append.mpr ⟨attempts fs, by simp⟩) (by simp) (by simpa using Nat.lt_succ_of_le hmax)
  · rintro _ u ⟨-, fs, hmin, hmax, hu⟩
    refine hu.mono ?_
    rintro _ ⟨es, ⟨hes, h45⟩, rfl⟩
    rw [List.append_nil]
    exact hes.aborted h45 (attempts fs) (by simpa using hmin) (by simpa using hmax)

end Session

/-! The upload. -/

/-- What an upload from `s` with marks of `X` leaves: the lock and the session gone, the power machine and the dialect as they were
(44_dfu_engine R405). -/
structure State.uploaded (s : State) (X : List Event → Prop) (t : State) : Prop where
  marks : s.marks X t
  holder : t.holder = none
  session : t.session = none
  power : t.powerFace = s.powerFace

section Upload

variable {s : State} {image : List Byte} {X : List Event → Prop} {R : Err → State → Prop} {W : State → Prop}

/-- Taking and releasing the lock are no marks. -/
theorem endSession_uploaded : Meets True ((s.inSession image).course X) endSession (fun _ => s.uploaded X) R W := by
  intro u ⟨⟨l, hl, hX⟩, hf⟩
  obtain ⟨hpower, hholder, hcur, -⟩ := State.sessionFace_eq hf
  have hheld : u.holder = some u.cur := by rw [hholder, hcur]; rfl
  rw [endSession_holder hheld]
  refine ⟨⟨(s.now, .lock s.cur) :: l ++ [(u.now, .unlock u.cur)], ?_, ?_⟩, rfl, rfl, hpower⟩
  · have htrace : u.sessionOver.trace = u.trace ++ [(u.now, .unlock u.cur)] := rfl
    rw [htrace, hl]
    simp [State.inSession]
  · simpa [Event.isMark] using hX

theorem uploadFrom_uploaded {k : Hold} (hl : s.canLock) (hr : s.readsFreely) :
    Meets True (· = s) (uploadFrom k image)
      (fun _ => s.uploaded (committed (blocksDone s.cur image (blockCount image.length) (blockCount image.length))))
      (fun e => s.uploaded (aborted (blocksDone s.cur image (blockCount image.length)) (blockCount image.length) e))
      fun _ => False := by
  have hin : (s.inSession image).course (sending []) (s.inSession image) := ⟨State.marks_refl sending_nil, rfl⟩
  have hbody := sessionBody_course (s := s.inSession image) hr
  rintro _ rfl
  rw [uploadFrom_eq hl]
  refine meets_bind (meets_attempt hbody) (fun r => ?_) _ hin
  cases r with
  | ok a => exact endSession_uploaded
  | error e =>
    exact meets_bind (abortSeq_course (s := State.inSession _ image) hr e) fun _ => meets_bind endSession_uploaded fun _ => meets_raise fun _ => id

end Upload

/-- Settles O49: the upload ends in one of the two courses of a session, or host power was cut. -/
theorem sessionWrites : Obligations.SessionWrites := by
  unfold Obligations.SessionWrites
  intro s t image blocks hmin hmax hblocks hl hd h
  subst hblocks
  have hlegal : imageSizeLegal image.length = true := (imageSizeLegal_iff _).mpr ⟨hmin, hmax⟩
  have hends := uploadFrom_uploaded (s := s.dfuAt s.cur .validate) (image := image) (k := .upload image) hl hd _ rfl
  rw [← dfuUpload_legal hlegal s] at hends
  obtain ⟨a, v, hv, rfl⟩ | ⟨e, v, hv, rfl⟩ | ⟨v, -, rfl⟩ :=
    giving_next (g := fun _ => .unit) (fun u hu => by rw [hu] at hends; exact hends) h
  · rw [hv] at hends
    obtain ⟨hmarks, hholder, hsession, hpower⟩ := hends
    obtain ⟨hfsm, ht0, hfed, hdone, hintent, hmeas, hdialect, hexit⟩ := State.powerFace_eq hpower
    obtain ⟨hblocks, hcommit, habort⟩ := hmarks.newEvents
    rw [filter_isBlockDone_marks] at hblocks
    rw [filterMap_writtenTo_marks] at hcommit
    exact .inr ⟨hholder, hsession, hfsm, ht0, hfed, hdone, hintent, hmeas, hdialect, hexit,
      .inl ⟨rfl, hblocks, hcommit, forall_not_isWriteTo_marks _ _ habort⟩⟩
  · rw [hv] at hends
    obtain ⟨hmarks, hholder, hsession, hpower⟩ := hends
    obtain ⟨hfsm, ht0, hfed, hdone, hintent, hmeas, hdialect, hexit⟩ := State.powerFace_eq hpower
    obtain ⟨⟨hblocks, hcommit, hnone⟩, hmin, hmax⟩ := hmarks.newEvents
    rw [filter_isBlockDone_marks] at hblocks
    rw [filterMap_writtenTo_marks] at hcommit
    rw [filter_isWriteTo_marks] at hmin hmax
    exact .inr ⟨hholder, hsession, hfsm, ht0, hfed, hdone, hintent, hmeas, hdialect, hexit,
      .inr ⟨e, rfl, hblocks, hcommit, fun hne => forall_not_isWriteTo_marks _ _ (hnone hne), hmin, hmax⟩⟩
  · exact .inl ⟨v, rfl⟩

end Sys2Proof.Machine
end

section
/-! PROOFS. An upload to the reference companion with nothing landing in it completes (O48). -/

namespace Sys2Proof.Machine

/-! Time passes with nothing landing: the signal's latch and the draws of the bus and of the sleeps stay. -/

/-- The signal's latch, and the settled draws of the bus and of the sleeps. -/
def State.quietFace (s : State) : Bool × List BusDraw × List Susp := (s.sigCancel, s.inp.bus, s.inp.sleep)

section Quiet

variable (s : State) (till : Nat)

@[simp] theorem State.arm_quietFace : s.arm.quietFace = s.quietFace := by
  unfold State.arm popLate
  cases s.inp.late <;> dsimp only <;> split <;> rfl

@[simp] theorem State.wake_quietFace : s.wake.quietFace = s.quietFace := by
  unfold State.wake
  split
  · rfl
  · exact State.arm_quietFace s.beginTick

@[simp] theorem State.wakes_quietFace (k : Nat) : (s.wakes till k).quietFace = s.quietFace := by
  induction k generalizing s with
  | zero => rfl
  | succ k ih =>
    unfold State.wakes
    split
    · rfl
    · split
      · rw [ih, State.wake_quietFace]
        rfl
      · rfl

theorem State.elapse_quietFace : (s.elapse till []).quietFace = s.quietFace := s.wakes_quietFace till _

end Quiet

/-! The reference companion in a session (60_exceptions R633). -/

/-- The reference companion in a session of `n` bytes of which it has `i` blocks, with no poll delayed. -/
def RefCompanion.after (c : RefCompanion) (n i : Nat) : RefCompanion :=
  { c with session := some { size := n, count := i, preparing := 0, queueFull := 0, crcError := false } }

section Reference

variable {c : RefCompanion} {n i : Nat} {image : List Byte}

theorem refWrite_start (h : c.preparingPolls = 0) (hn : n < 256 ^ 4) : refWrite c 0x40 (be32 n) = c.after n 0 := by
  have hlen : (be32 n).length = 4 := beN_length 4 n
  have hsize : decBe (be32 n) = n := decBe_beN hn
  simp [refWrite, isUsbReg, hlen, hsize, h, RefCompanion.after]

theorem refStatus_ready (h : i < blockCount n) : refStatus (c.after n i) = (2, c.after n i) := by
  simp [refStatus, RefCompanion.after, Nat.ne_of_lt h]

theorem refStatus_last : refStatus (c.after n (blockCount n)) = (4, c.after n (blockCount n)) := by
  simp [refStatus, RefCompanion.after]

/-! The fields of a frame (43_dfu_framer R352). -/

section FrameFields

variable (i : Nat) (d : List Byte)

theorem frameBytes_eq : frameBytes i d = be32 (crc32 (frameBody i d)).toNat ++ frameBody i d := rfl

theorem frameBytes_length : (frameBytes i d).length = d.length + 8 := by
  simp [frameBytes_eq, frameBody, be32, be16]
  omega

theorem frameBytes_take_four : (frameBytes i d).take 4 = be32 (crc32 (frameBody i d)).toNat := List.take_left' (beN_length 4 _)

theorem frameBytes_drop_four : (frameBytes i d).drop 4 = frameBody i d := List.drop_left' (beN_length 4 _)

theorem frameBody_take_two : (frameBody i d).take 2 = be16 i := by
  rw [frameBody, List.append_assoc]
  exact List.take_left' (beN_length 2 i)

theorem frameBytes_drop_six_take_two : ((frameBytes i d).drop 6).take 2 = be16 d.length := by
  have hsix : (frameBytes i d).drop 6 = ((frameBytes i d).drop 4).drop 2 := by rw [List.drop_drop]
  have htwo : (be16 i ++ (be16 d.length ++ d)).drop 2 = be16 d.length ++ d := List.drop_left' (beN_length 2 i)
  rw [hsix, frameBytes_drop_four, frameBody, List.append_assoc, htwo]
  exact List.take_left' (beN_length 2 _)

end FrameFields

/-- The companion takes the next block's frame (43_dfu_framer R352). -/
theorem refBlock_next {x : RefSession} (hx : x.size = image.length) (hn : imageSizeLegal image.length = true)
    (hi : x.count < blockCount image.length) :
    refBlock c x (frameBytes x.count (blockAt image x.count)) =
      { x with count := x.count + 1, queueFull := c.queueFullPolls.getD x.count 0 } := by
  have hrange := (imageSizeLegal_iff _).mp hn
  obtain ⟨hindex, hmin, hmax⟩ := frameInRange_iff.mp (frameInRange_blockAt hrange hi)
  have hcount : decBe (be16 x.count) = x.count := decBe_beN (k := 2) (by omega)
  have hlength : decBe (be16 (blockAt image x.count).length) = (blockAt image x.count).length := decBe_beN (k := 2) (by omega)
  unfold refBlock
  rw [if_neg (by rw [frameBytes_take_four, frameBytes_drop_four]; exact not_not_intro rfl), if_pos]
  rw [frameBytes_length, frameBytes_drop_four, frameBody_take_two, hcount, frameBytes_drop_six_take_two, hlength, hx]
  exact ⟨by omega, rfl, rfl, blockAt_length image x.count⟩

theorem refWrite_frame (c : RefCompanion) (data : List Byte) :
    refWrite c 0x43 data = { c with session := c.session.map fun x => refBlock c x data } := by
  simp [refWrite, isUsbReg]

theorem refWrite_block (h : c.queueFullPolls = []) (hn : imageSizeLegal image.length = true) (hi : i < blockCount image.length) :
    refWrite (c.after image.length i) 0x43 (frameBytes i (blockAt image i)) = c.after image.length (i + 1) := by
  have hnext := refBlock_next (c := c.after image.length i) (x := ⟨image.length, i, 0, 0, false⟩) rfl hn hi
  have hnone : (c.after image.length i).queueFullPolls.getD i 0 = 0 := by
    unfold RefCompanion.after
    rw [h]
    rfl
  dsimp only at hnext
  rw [refWrite_frame, RefCompanion.after, Option.map_some, ← RefCompanion.after, hnext, hnone]
  rfl

theorem refRead_status {st : Byte} (h : refStatus c = (st, c)) (resp : BusResp) : refRead c 0x41 1 resp = ([st], c) := by
  simp [refRead, h]

theorem refRead_count (resp : BusResp) : refRead (c.after n i) 0x42 2 resp = (be16 i, c.after n i) := by
  simp [refRead, RefCompanion.after]

end Reference

/-! A point of such a session. -/

/-- `u` comes after `s` in a session that has shown the marks `es` and taken `ms` milliseconds, with no signal, the reference
companion at `c`, no watchdog, and quiet draws left for `b` transactions and `k` sleeps. -/
structure State.smooth (s : State) (es : List Event) (c : RefCompanion) (b k ms : Nat) (u : State) : Prop where
  course : s.course (· = es) u
  ref : u.comp.ref = some c
  wdog : u.comp.wdog = .disabled
  signal : u.sigCancel = false
  quiet : u.quietFor b k
  now : u.now = s.now + ms

section Smooth

variable {s u : State} {es : List Event} {c c' : RefCompanion} {b k ms i : Nat} {r : Byte}

/-- A change of the engines and of the session's memory. -/
theorem State.smooth.engine (h : s.smooth es c b k ms u) (ps : List (Agent × DfuPoint)) (x : Option Session) :
    s.smooth es c b k ms { u with pcDfu := ps, session := x } where
  course := ⟨h.course.1.quiet rfl, h.course.2⟩
  ref := h.ref
  wdog := h.wdog
  signal := h.signal
  quiet := h.quiet
  now := h.now

theorem State.smooth.dfuAt (h : s.smooth es c b k ms u) (p : DfuPoint) : s.smooth es c b k ms (u.dfuAt u.cur p) :=
  h.engine (setPoint u.pcDfu u.cur p) u.session

theorem State.lasts_course (s : State) (X : List Event → Prop) : Lasts (s.course X) :=
  Lasts.and (s.lasts_marks X) (steady_sessionFace s).lands

/-- Time passes. -/
theorem State.smooth.elapse (h : s.smooth es c b k ms u) (d : Nat) : s.smooth es c b k (ms + d) (u.elapse (u.now + d) []) := by
  have hface := u.elapse_quietFace (u.now + d)
  simp only [State.quietFace, Prod.mk.injEq] at hface
  obtain ⟨hsig, hbus, hsleep⟩ := hface
  exact {
    course := Lasts.elapse (s.lasts_course _) h.course _ _
    ref := by rw [State.elapse_comp, h.ref]
    wdog := by rw [State.elapse_comp, h.wdog]
    signal := by rw [hsig, h.signal]
    quiet := by
      unfold State.quietFor
      rw [hbus, hsleep]
      exact h.quiet
    now := by rw [State.elapse_now, h.now, Nat.add_assoc] }

theorem State.smooth.sleep (h : s.smooth es c b (k + 1) ms u) (d : Nat) :
    ∃ p, u.rests p d ∧ s.smooth es c b k (ms + d) (u.didSleep p d) := by
  obtain ⟨hb, hk, hbus, hsleep⟩ := h.quiet
  cases hq : u.inp.sleep with
  | nil => simp [hq] at hk
  | cons p rest =>
    obtain rfl : p = ⟨0, [], false⟩ := hsleep p (by simp [hq])
    refine ⟨⟨0, [], false⟩, ⟨by simp [hq], rfl, by rw [h.wdog]; rfl⟩, State.smooth.elapse ?_ d⟩
    exact {
      course := ⟨h.course.1.other (e := .sleep d) rfl rfl, h.course.2⟩
      ref := h.ref
      wdog := h.wdog
      signal := h.signal
      quiet := ⟨hb, by simpa [hq] using hk, hbus, fun q hmem => hsleep q (List.mem_of_mem_tail hmem)⟩
      now := h.now }

end Smooth

section Steps

variable {s : State} (hopen : s.busOpen = true) (hheld : s.holder = some s.cur) (hd : s.dialect = some .two)
  {u : State} {es : List Event} {c c' : RefCompanion} {b k ms i : Nat} {r : Byte}

include hopen hheld

/-- The next bus draw answers at once. -/
theorem State.smooth.answer (h : s.smooth es c (b + 1) k ms u) :
    ∃ d, u.awaits d ∧ d.susp.dur = 0 ∧ s.smooth es c b k ms (u.atAnswer d) := by
  obtain ⟨-, hholder, hcur, -, hbusOpen, -⟩ := State.sessionFace_eq h.course.2
  obtain ⟨hb, hk, hbus, hsleep⟩ := h.quiet
  cases hq : u.inp.bus with
  | nil => simp [hq] at hb
  | cons d rest =>
    have hsusp : d.susp = ⟨0, [], false⟩ := hbus d (by simp [hq])
    refine ⟨d, ⟨hbusOpen.trans hopen, by rw [hholder, hheld, hcur], by simp [hq], by rw [hsusp], by rw [h.wdog]; rfl⟩,
      by rw [hsusp], ?_⟩
    have htaken : s.smooth es c b k ms { u with inp := { u.inp with bus := u.inp.bus.tail } } := {
      course := ⟨h.course.1.quiet rfl, h.course.2⟩
      ref := h.ref
      wdog := h.wdog
      signal := h.signal
      quiet := ⟨by simpa [hq] using hb, hk, fun x hmem => hbus x (List.mem_of_mem_tail hmem), hsleep⟩
      now := h.now }
    unfold State.atAnswer
    rw [hsusp]
    exact htaken.elapse 0

theorem State.smooth.read (h : s.smooth es c (b + 1) k ms u) {n : Nat} {bs : List Byte}
    (hc : ∀ resp, refRead c r n resp = (bs, c')) :
    ∃ d, u.reads d r n bs ∧ s.smooth es c' b k ms (u.didRead d r n) := by
  obtain ⟨d, ha, hdur, hanswer⟩ := h.answer hopen hheld
  have hread : u.readAnswer d r n = (.ok bs, { u.comp with ref := some c' }) := by
    simp [State.readAnswer, Companion.answerRead, h.ref, hc, Companion.answerRead.settle, h.wdog, Watchdog.touch]
  refine ⟨d, ⟨ha, by rw [hread]⟩, ?_⟩
  unfold State.didRead
  rw [hread]
  exact {
    course := ⟨hanswer.course.1.other (e := .read r n (.ok bs)) rfl rfl, hanswer.course.2⟩
    ref := rfl
    wdog := h.wdog
    signal := hanswer.signal
    quiet := hanswer.quiet
    now := hanswer.now }

theorem State.smooth.write (h : s.smooth es c (b + 1) k ms u) (hr : r.toNat ≠ 0x10) (data : List Byte) :
    ∃ d, u.writes d r data ∧
      s.smooth (es ++ [.write r data (.ok ())]) (refWrite c r data) b k ms (u.didWrite d r data) := by
  obtain ⟨d, ha, hdur, hanswer⟩ := h.answer hopen hheld
  have hok : (u.writeAnswer d r data).1 = .ok () := by
    simp [State.writeAnswer, Companion.answerWrite, h.ref]
  have hcomp : (u.writeAnswer d r data).2.ref = some (refWrite c r data) ∧ (u.writeAnswer d r data).2.wdog = .disabled := by
    simp [State.writeAnswer, Companion.answerWrite, h.ref, Companion.answerWrite.settle, h.wdog, Watchdog.afterWrite,
      Watchdog.touch, hr]
  refine ⟨d, ⟨ha, hok⟩, ?_⟩
  unfold State.didWrite
  rw [hok]
  exact {
    course := ⟨hanswer.course.1.mark (e := .write r data (.ok ())) rfl rfl fun _ he => by rw [he], hanswer.course.2⟩
    ref := hcomp.1
    wdog := hcomp.2
    signal := hanswer.signal
    quiet := hanswer.quiet
    now := hanswer.now }

/-! The engine's steps. -/

theorem State.smooth.poll (h : s.smooth es c (b + 1) k ms u) {st : Byte} (hc : refStatus c = (st, c)) :
    ∃ d, u.reads d 0x41 1 [st] ∧ s.smooth es c b k ms (u.polled d st) := by
  obtain ⟨d, hreads, hsmooth⟩ := h.read hopen hheld (refRead_status hc)
  exact ⟨d, hreads, hsmooth.engine _ _⟩

theorem State.smooth.prewait (h : s.smooth es c (b + 1) (k + 1) ms u) (hc : refStatus c = (2, c)) (i : Nat) :
    ∃ v, prewait i u = .ok () v ∧ s.smooth es c b k (ms + 100) v := by
  obtain ⟨p, hrests, hslept⟩ := (h.dfuAt (.preWait i)).sleep 100
  obtain ⟨d, hreads, hpolled⟩ := hslept.poll hopen hheld hc
  exact ⟨_, (prewait_rests rfl h.signal hrests).trans (prewaitLoop_ready (k := 301) hreads rfl), hpolled⟩

theorem State.smooth.dfuSend (h : s.smooth es c (b + 1) k ms u) (hi : frameInRange i (blockAt s.dfuImage i) = true) :
    ∃ v, dfuSend i u = .ok () v ∧
      s.smooth (es ++ [.write 0x43 (frameBytes i (blockAt s.dfuImage i)) (.ok ())])
        (refWrite c 0x43 (frameBytes i (blockAt s.dfuImage i))) b k ms v := by
  obtain ⟨d, hwrites, hwrote⟩ := (h.dfuAt (.send i)).write hopen hheld (r := 0x43) (by decide) (frameBytes i (blockAt s.dfuImage i))
  obtain ⟨-, -, -, himage, -⟩ := State.sessionFace_eq h.course.2
  refine ⟨_, ?_, hwrote⟩
  rw [dfuSend_eq, himage]
  exact dfuBlock_writes hi hwrites

omit hopen hheld in
theorem State.smooth.noteProgress (h : s.smooth es c b k ms u) (i total : Nat) :
    ∃ v, noteProgress i total u = .ok () v ∧ s.smooth (es ++ [.progress s.cur (i + 1) total]) c b k ms v := by
  obtain ⟨-, -, hcur, -⟩ := State.sessionFace_eq h.course.2
  refine ⟨_, Op.bind_ok (setDfu_run _ u), ?_⟩
  rw [← hcur]
  exact {
    course := ⟨h.course.1.mark (e := .progress u.cur (i + 1) total) rfl rfl fun _ he => by rw [he], h.course.2⟩
    ref := h.ref
    wdog := h.wdog
    signal := h.signal
    quiet := h.quiet
    now := h.now }

/-- All blocks from `i` on, one poll, one frame and 100 ms each. -/
theorem State.smooth.sendBlocks (hq : c.queueFullPolls = []) (hn : imageSizeLegal s.dfuImage.length = true) {pre : List Event}
    {j : Nat} (hj : i + j ≤ blockCount s.dfuImage.length)
    (h : s.smooth (pre ++ s.part i) (c.after s.dfuImage.length i) (b + 2 * j) (k + j) ms u) :
    ∃ v, sendBlocks (blockCount s.dfuImage.length) j i u = .ok () v ∧
      s.smooth (pre ++ s.part (i + j)) (c.after s.dfuImage.length (i + j)) b k (ms + 100 * j) v := by
  induction j generalizing i ms u with
  | zero => exact ⟨u, rfl, h⟩
  | succ j ih =>
    have hi : i < blockCount s.dfuImage.length := by omega
    obtain ⟨u1, h1, hwaited⟩ := State.smooth.prewait (b := b + 2 * j + 1) (k := k + j) hopen hheld h (refStatus_ready hi) i
    obtain ⟨u2, h2, hsent⟩ := hwaited.dfuSend hopen hheld (frameInRange_blockAt ((imageSizeLegal_iff _).mp hn) hi)
    obtain ⟨u3, h3, hnoted⟩ := hsent.noteProgress i (blockCount s.dfuImage.length)
    have hpart : pre ++ s.part i ++ [.write 0x43 (frameBytes i (blockAt s.dfuImage i)) (.ok ())] ++
        [.progress s.cur (i + 1) (blockCount s.dfuImage.length)] = pre ++ s.part (i + 1) := by
      simp [State.part, blocksDone_succ]
    rw [hpart, refWrite_block hq hn hi] at hnoted
    obtain ⟨v, hv, hrest⟩ := ih (by omega) hnoted
    refine ⟨v, ?_, ?_⟩
    · rw [Machine.sendBlocks, Op.bind_ok h1, Op.bind_ok h2, Op.bind_ok h3, hv]
    · have hstep : i + (j + 1) = i + 1 + j := by omega
      have htime : ms + 100 * (j + 1) = ms + 100 + 100 * j := by omega
      rw [hstep, htime]
      exact hrest

include hd in
/-- The drain ends with its first iteration. -/
theorem State.smooth.drain {n : Nat} (hn : blockCount n < 256 ^ 2)
    (h : s.smooth es (c.after n (blockCount n)) (b + 2) (k + 1) ms u) :
    ∃ v, drain (blockCount n) u = .ok () v ∧ s.smooth es (c.after n (blockCount n)) b k (ms + 100) v := by
  obtain ⟨d, hreads, hpolled⟩ := (h.dfuAt .drain).poll hopen hheld refStatus_last
  obtain ⟨p, hrests, hslept⟩ := hpolled.sleep 100
  obtain ⟨d', hcount, hcounted⟩ := hslept.read hopen hheld refRead_count
  refine ⟨_, ?_, hcounted⟩
  have hdialect : (((u.dfuAt u.cur .drain).polled d 4).didSleep p 100).dialect = some .two := by
    obtain ⟨hpower, -⟩ := State.sessionFace_eq hslept.course.2
    obtain ⟨-, -, -, -, -, -, hdial, -⟩ := State.powerFace_eq hpower
    rw [hdial, hd]
  have hbw := rdu16_reads hdialect hcount
  have hdec : decBe (be16 (blockCount n)) = blockCount n := decBe_beN hn
  rw [hdec] at hbw
  have hloop : Machine.drain (blockCount n) u = drainLoop (blockCount n) u.now drainFuel (u.dfuAt u.cur .drain) := rfl
  rw [hloop]
  exact (drainLoop_going (k := 10) hreads (by decide) (by decide) hrests).trans
    ((Op.bind_ok hbw).trans (drainCounted_done rfl rfl))

theorem State.smooth.commitSeq (h : s.smooth es c (b + 1) (k + 1) ms u) :
    ∃ v, commitSeq u = .ok () v ∧
      s.smooth (es ++ [.write 0x44 [0x00] (.ok ())]) (refWrite c 0x44 [0x00]) b k (ms + 100) v := by
  obtain ⟨p, hrests, hslept⟩ := (h.dfuAt .commit).sleep 100
  obtain ⟨d, hwrites, hwrote⟩ := hslept.write hopen hheld (r := 0x44) (by decide) [0x00]
  exact ⟨_, (commitSeq_rests hrests).trans (dfuCommit_writes hwrites), hwrote⟩

include hd in
/-- The whole session: one transaction to start, two for each block, two to drain and one to commit; 100 ms for each block, for the
drain and for the commit (44_dfu_engine R380). -/
theorem State.smooth.sessionBody (hp : c.preparingPolls = 0) (hq : c.queueFullPolls = [])
    (hn : imageSizeLegal s.dfuImage.length = true)
    (h : s.smooth [] c (2 * blockCount s.dfuImage.length + 4) (blockCount s.dfuImage.length + 2) 0 u) :
    ∃ v c', sessionBody s.dfuImage.length u = .ok () v ∧
      s.smooth ([.write 0x40 (be32 s.dfuImage.length) (.ok ())] ++ s.part (blockCount s.dfuImage.length) ++
        [.write 0x44 [0x00] (.ok ())]) c' 0 0 (100 * blockCount s.dfuImage.length + 200) v := by
  have hsize := (imageSizeLegal_iff _).mp hn
  have hblocks : blockCount s.dfuImage.length < 256 ^ 2 := by
    unfold blockCount
    omega
  have hcount : 2 * blockCount s.dfuImage.length + 4 = 3 + 2 * blockCount s.dfuImage.length + 1 := by omega
  have htime : 0 + 100 * blockCount s.dfuImage.length + 100 + 100 = 100 * blockCount s.dfuImage.length + 200 := by omega
  rw [hcount] at h
  obtain ⟨d, hwrites, hstarted⟩ :=
    (h.dfuAt .start).write hopen hheld (r := 0x40) (by decide) (be32 s.dfuImage.length)
  rw [refWrite_start hp (by omega), Nat.add_comm _ 2] at hstarted
  obtain ⟨u2, h2, hsent⟩ := State.smooth.sendBlocks (i := 0) (j := blockCount s.dfuImage.length)
    (pre := [.write 0x40 (be32 s.dfuImage.length) (.ok ())]) hopen hheld hq hn (by omega) hstarted
  rw [Nat.zero_add] at hsent
  obtain ⟨u3, h3, hdrained⟩ := State.smooth.drain (b := 1) (k := 1) hopen hheld hd hblocks hsent
  obtain ⟨v, hv, hcommitted⟩ := State.smooth.commitSeq (b := 0) (k := 0) hopen hheld hdrained
  rw [htime] at hcommitted
  refine ⟨v, _, ?_, hcommitted⟩
  unfold Machine.sessionBody
  rw [Op.bind_ok (setDfu_run _ u), Op.bind_ok (dfuStart_writes hn hwrites), Op.bind_ok h2, Op.bind_ok h3, hv]

end Steps

/-! The marks of a whole session. -/

/-- The start write, the block writes with their reports, and the commit write (44_dfu_engine R380). -/
def sessionMarks (a : Agent) (image : List Byte) : List Event :=
  [.write 0x40 (be32 image.length) (.ok ())] ++ blocksDone a image (blockCount image.length) (blockCount image.length) ++
    [.write 0x44 [0x00] (.ok ())]

section SessionMarks

variable (a : Agent) (image : List Byte) (blocks k : Nat)

variable {a image blocks k} in
theorem mem_blocksDone {e : Event} (h : e ∈ blocksDone a image blocks k) :
    ∃ i, e = .write 0x43 (frameBytes i (blockAt image i)) (.ok ()) ∨ e = .progress a (i + 1) blocks := by
  simp only [blocksDone, List.mem_flatMap, List.mem_cons, List.not_mem_nil, or_false] at h
  obtain ⟨i, -, he⟩ := h
  exact ⟨i, he⟩

theorem blocksDone_filter_isBlockDone : (blocksDone a image blocks k).filter Event.isBlockDone = blocksDone a image blocks k := by
  rw [List.filter_eq_self]
  intro e he
  obtain ⟨i, rfl | rfl⟩ := mem_blocksDone he
  · rfl
  · rfl

theorem blocksDone_isWriteTo {r : Byte} (h : 0x43 ≠ r) : ∀ e ∈ blocksDone a image blocks k, e.isWriteTo r = false := by
  intro e he
  obtain ⟨i, rfl | rfl⟩ := mem_blocksDone he
  · exact beq_eq_false_iff_ne.mpr h
  · rfl

theorem sessionMarks_start : (sessionMarks a image).filterMap (Event.writtenTo 0x40) = [be32 image.length] := by
  rw [sessionMarks, List.filterMap_append, List.filterMap_append,
    filterMap_writtenTo_eq_nil (blocksDone_isWriteTo a image _ _ (by decide))]
  rfl

theorem sessionMarks_committed :
    committed (blocksDone a image (blockCount image.length) (blockCount image.length)) (sessionMarks a image) := by
  have hsent := sending_nil.append
    (fs := [.write 0x40 (be32 image.length) (.ok ())] ++ blocksDone a image (blockCount image.length) (blockCount image.length))
    (List.forall_mem_append.mpr ⟨by simp [Event.isWriteTo], fun e he =>
      ⟨blocksDone_isWriteTo a image _ _ (by decide) e he, blocksDone_isWriteTo a image _ _ (by decide) e he⟩⟩)
  rw [List.filter_append, blocksDone_filter_isBlockDone] at hsent
  have hdone := hsent.committed []
  rw [failedWrites, List.map_nil, List.append_nil] at hdone
  exact hdone

end SessionMarks

/-! The upload. -/

/-- An upload from its `Lock()` on, with quiet draws and no poll delays (70_reset R714). -/
theorem uploadFrom_completes {s : State} {image : List Byte} {c : RefCompanion} (k : Hold)
    (hn : imageSizeLegal image.length = true) (hl : s.canLock) (hopen : s.busOpen = true) (hd : s.dialect = some .two)
    (hsig : s.sigCancel = false) (href : s.comp.ref = some c) (hp : c.preparingPolls = 0) (hq : c.queueFullPolls = [])
    (hw : s.comp.wdog = .disabled) (hquiet : s.quietFor (2 * blockCount image.length + 4) (blockCount image.length + 2)) :
    ∃ t, uploadFrom k image s = .ok () t ∧ s.uploaded (· = sessionMarks s.cur image) t ∧
      t.now = s.now + (100 * blockCount image.length + 200) ∧ t.pcDfu.lookup s.cur = some .done := by
  have hstart : (s.inSession image).smooth [] c (2 * blockCount image.length + 4) (blockCount image.length + 2) 0
      (s.inSession image) := ⟨⟨State.marks_refl rfl, rfl⟩, href, hw, hsig, hquiet, rfl⟩
  obtain ⟨v, c', hbody, hdone⟩ := State.smooth.sessionBody (s := s.inSession image) hopen rfl hd hp hq hn hstart
  obtain ⟨-, hholder, hcur, -⟩ := State.sessionFace_eq hdone.course.2
  have hend : endSession v = .ok () v.sessionOver := endSession_holder (by rw [hholder, hcur]; rfl)
  refine ⟨v.sessionOver, ?_, ?_, hdone.now, ?_⟩
  · rw [uploadFrom_eq hl]
    exact (Op.bind_ok (attempt_ok hbody)).trans hend
  · have hover : Meets True ((s.inSession image).course (· = sessionMarks s.cur image)) endSession
        (fun _ => s.uploaded (· = sessionMarks s.cur image)) (fun _ _ => True) fun _ => True := endSession_uploaded
    exact hover.of_ok hdone.course hend
  · have hself : v.cur = s.cur := hcur
    rw [← hself]
    exact setPoint_lookup_self _ _ _

theorem cUpload_ok {x : Op Unit} {s t : State} (h : x s = .ok () t) : cUpload x s = .ok (.value .unit) t := by
  unfold cUpload
  rw [Op.bind_ok (attempt_ok h)]
  rfl

/-- Settles O48: the session runs through, and its end, as the operation's value or as the request's reply, is the upload's. -/
theorem uploadCompletes : Obligations.UploadCompletes := by
  unfold Obligations.UploadCompletes
  intro s image blocks c hmin hmax hblocks hl hopen hd hsig href hp hq hw hquiet i hi
  obtain rfl : blocks = blockCount image.length := hblocks
  have hn : imageSizeLegal image.length = true := (imageSizeLegal_iff _).mpr ⟨hmin, hmax⟩
  have completes (k : Hold) : ∃ v, dfuUpload k image s = .ok () v ∧ s.uploaded (· = sessionMarks s.cur image) v ∧
      v.now = s.now + (100 * blockCount image.length + 200) ∧ v.pcDfu.lookup s.cur = some .done := by
    rw [dfuUpload_legal hn s]
    obtain ⟨v, hv, ⟨hm, hh, hs, hpw⟩, hnow, hpt⟩ :=
      uploadFrom_completes (s := s.dfuAt s.cur .validate) k hn hl hopen hd hsig href hp hq hw hquiet
    exact ⟨v, hv, ⟨hm, hh, hs, hpw⟩, hnow, hpt⟩
  obtain ⟨k, hk⟩ : ∃ k, ∀ v, dfuUpload k image s = .ok () v → ∃ t, exec i s = .next t ∧
      (i = .dfuUpload image → t.result = some (.value .unit)) ∧
      (i = .cUpload image → t.result = some (.reply (.value .unit))) ∧ t.trace = v.trace ∧ t.now = v.now ∧
      t.holder = v.holder ∧ t.session = v.session ∧ t.pcDfu = v.pcDfu ∧ t.powerFace = v.powerFace := by
    simp only [List.mem_cons, List.not_mem_nil, or_false] at hi
    obtain rfl | rfl := hi
    · exact ⟨.upload image, fun v hv => ⟨_, doing_ok hv, fun _ => rfl, nofun, rfl, rfl, rfl, rfl, rfl, rfl⟩⟩
    · exact ⟨.uploadRequest image, fun v hv => ⟨_, replying_ok (cUpload_ok hv), nofun, fun _ => rfl, rfl, rfl, rfl, rfl, rfl, rfl⟩⟩
  obtain ⟨v, hv, ⟨hmarks, hholder, hsession, hpower⟩, hnow, hpoint⟩ := completes k
  obtain ⟨t, ht, hvalue, hreply, ttrace, tnow, tholder, tsession, tpoint, tpower⟩ := hk v hv
  obtain ⟨hfsm, -, hfed, -, -, -, hdialect, -⟩ := State.powerFace_eq (tpower.trans hpower)
  have hseen : (s.newEvents t).filter Event.isMark = sessionMarks s.cur image := (hmarks.quiet ttrace).newEvents
  obtain ⟨hdone, hcommit, habort⟩ := sessionMarks_committed s.cur image
  rw [← hseen] at hdone hcommit habort
  rw [filter_isBlockDone_marks] at hdone
  rw [filterMap_writtenTo_marks] at hcommit
  have hstart := sessionMarks_start s.cur image
  rw [← hseen, filterMap_writtenTo_marks] at hstart
  exact ⟨t, ht, hvalue, hreply, hstart, hdone, hcommit, forall_not_isWriteTo_marks _ _ habort, tnow.trans hnow,
    tholder.trans hholder, tsession.trans hsession, by rw [tpoint, hpoint], hfsm, hfed, hdialect⟩

end Sys2Proof.Machine
end

section
/-! PROOFS. The errors that a control request replies (O54): what a bus operation raises is replied as Internal, and only a refusal
before `Lock()` is replied as it is (45_control R471). -/

namespace Sys2Proof.Machine

/-! Errors that the control port hides. -/

/-- The error is replied as Internal (45_control R471). -/
def Err.isInner (e : Err) : Prop := ∃ c, mapError e = .internal c

/-- Where the outcome is an error, it is replied as Internal. -/
def Hides {α : Type} (r : Except Err α) : Prop := ∀ e, r = .error e → e.isInner

/-- `x` raises no refusal and does not wait. -/
def RaisesInner {α : Type} (x : Op α) : Prop :=
  Meets True (fun _ => True) x (fun _ _ => True) (fun e _ => e.isInner) fun _ => False

section RaisesInner

variable {α β : Type}

theorem RaisesInner.bind {x : Op α} {f : α → Op β} (hx : RaisesInner x) (hf : ∀ a, RaisesInner (f a)) :
    RaisesInner (x >>= f) := meets_bind hx hf

theorem RaisesInner.ite {c : Prop} [Decidable c] {x y : Op α} (hx : c → RaisesInner x) (hy : ¬c → RaisesInner y) :
    RaisesInner (if c then x else y) := meets_ite hx hy

theorem raisesInner_pure (a : α) : RaisesInner (pure a : Op α) := meets_pure fun _ => id

theorem raisesInner_raise {e : Err} (h : e.isInner) : RaisesInner (raise e : Op α) := meets_raise fun _ _ => h

theorem raisesInner_get : RaisesInner get := meets_get

theorem raisesInner_clock : RaisesInner clock := meets_clock

theorem raisesInner_modify (f : State → State) : RaisesInner (modify f) := meets_modify fun _ => id

/-- A transport error is no refusal. -/
theorem Transacts.raisesInner {x : Op α} (h : Transacts True (fun _ => True) x) : RaisesInner x :=
  h.mono (fun _ _ => id) (fun _ _ ⟨⟨f, he⟩, _⟩ => ⟨.transport f, by rw [he]; rfl⟩) fun _ => id

theorem onBus_any : OnBus True fun _ => True := ⟨⟨fun h _ => h, id, id⟩, .inl trivial⟩

theorem raisesInner_sleep (ms : Nat) : RaisesInner (sleep ms) := onBus_any.sleep ms

/-! Named registers. -/

theorem raisesInner_readMeasurements : RaisesInner readMeasurements :=
  (onBus_any.readMeasurements (.inl trivial)).raisesInner

theorem raisesInner_getUsb {p : Int} (hp : portLegal p = true) : RaisesInner (getUsb p) :=
  .ite (fun _ => (onBus_any.rdu8 _).raisesInner.bind fun _ => .ite (fun _ => raisesInner_pure _) fun _ =>
    .ite (fun _ => raisesInner_pure _) fun _ => raisesInner_raise ⟨_, rfl⟩) fun hn => absurd hp hn

theorem raisesInner_setUsb {p : Int} (hp : portLegal p = true) (on : Bool) : RaisesInner (setUsb p on) :=
  .ite (fun _ => (onBus_any.wru8 _ (.inl trivial)).raisesInner) fun hn => absurd hp hn

/-! The DFU engine. -/

theorem raisesInner_dfuStart {n : Nat} (hn : imageSizeLegal n = true) : RaisesInner (dfuStart n) :=
  .ite (fun _ => (onBus_any.wru32 _ (.inl trivial)).raisesInner) fun h => absurd hn h

/-- The verdict on a status byte (44_dfu_engine R386) is no refusal. -/
theorem classify_fatal_isInner {st : Byte} {e : Err} (h : classify st = .fatal e) : e.isInner := by
  unfold classify at h
  grind [Err.isInner, mapError]

theorem classifyDrain_isInner {st : Byte} {e : Err} (h : classifyDrain st = some e) : e.isInner := by
  unfold classifyDrain at h
  grind [Err.isInner, mapError]

theorem raisesInner_prewaitLoop (i start k : Nat) : RaisesInner (prewaitLoop i start k) := by
  induction k with
  | zero => exact raisesInner_raise ⟨_, rfl⟩
  | succ k ih =>
    refine onBus_any.dfuStatus.raisesInner.bind fun st => ?_
    split
    · exact raisesInner_pure _
    · next e he => exact raisesInner_raise (classify_fatal_isInner he)
    · exact raisesInner_get.bind fun _ => .ite (fun _ => raisesInner_raise ⟨_, rfl⟩) fun _ =>
        .ite (fun _ => raisesInner_raise ⟨_, rfl⟩) fun _ => (raisesInner_sleep _).bind fun _ => ih

theorem raisesInner_setDfu (p : DfuPoint) : RaisesInner (setDfu p) := raisesInner_modify _

theorem raisesInner_prewait (i : Nat) : RaisesInner (prewait i) :=
  (raisesInner_setDfu _).bind fun _ => raisesInner_get.bind fun _ => .ite (fun _ => raisesInner_raise ⟨_, rfl⟩) fun _ =>
    (raisesInner_sleep _).bind fun _ => raisesInner_clock.bind fun _ => raisesInner_prewaitLoop _ _ _

theorem raisesInner_dfuSend (i : Nat) : RaisesInner (dfuSend i) := (onBus_any.dfuSend (.inl trivial)).raisesInner

theorem raisesInner_noteProgress (i total : Nat) : RaisesInner (noteProgress i total) := onBus_any.noteProgress i total

theorem raisesInner_sendBlocks (total k i : Nat) : RaisesInner (sendBlocks total k i) := by
  induction k generalizing i with
  | zero => exact raisesInner_pure _
  | succ k ih =>
    exact (raisesInner_prewait i).bind fun _ => (raisesInner_dfuSend i).bind fun _ =>
      (raisesInner_noteProgress i total).bind fun _ => ih (i + 1)

theorem raisesInner_drainLoop (total start k : Nat) : RaisesInner (drainLoop total start k) := by
  induction k with
  | zero => exact raisesInner_raise ⟨_, rfl⟩
  | succ k ih =>
    refine onBus_any.dfuStatus.raisesInner.bind fun st => ?_
    split
    · next e he => exact raisesInner_raise (classifyDrain_isInner he)
    · exact (raisesInner_sleep _).bind fun _ => (onBus_any.rdu16 (.inl trivial) _).raisesInner.bind fun _ =>
        .ite (fun _ => raisesInner_pure _) fun _ => raisesInner_get.bind fun _ =>
          .ite (fun _ => .ite (fun _ => raisesInner_raise ⟨_, rfl⟩) fun _ => raisesInner_raise ⟨_, rfl⟩) fun _ =>
            (raisesInner_sleep _).bind fun _ => ih

theorem raisesInner_drain (total : Nat) : RaisesInner (drain total) :=
  (raisesInner_setDfu _).bind fun _ => raisesInner_clock.bind fun _ => raisesInner_drainLoop _ _ _

theorem raisesInner_commitSeq : RaisesInner commitSeq :=
  (raisesInner_setDfu _).bind fun _ => (raisesInner_sleep _).bind fun _ => onBus_any.dfuCommit.raisesInner

theorem raisesInner_sessionBody {n : Nat} (hn : imageSizeLegal n = true) : RaisesInner (sessionBody n) :=
  (raisesInner_setDfu _).bind fun _ => (raisesInner_dfuStart hn).bind fun _ => (raisesInner_sendBlocks _ _ _).bind fun _ =>
    (raisesInner_drain _).bind fun _ => raisesInner_commitSeq

theorem raisesInner_unlock : RaisesInner unlock := by
  intro s _
  by_cases h : s.holder = some s.cur
  · rw [unlock_holder h]
    trivial
  · rw [unlock_other h]
    trivial

theorem raisesInner_endSession : RaisesInner endSession :=
  (raisesInner_modify _).bind fun _ => raisesInner_unlock.bind fun _ => raisesInner_setDfu _

/-- Past the session an upload raises the session's error, if it had one (44_dfu_engine R399). -/
theorem raisesInner_closeSession {r : Except Err Unit} (h : Hides r) : RaisesInner (closeSession r) := by
  cases r with
  | ok a => exact raisesInner_endSession
  | error e =>
    exact RaisesInner.bind onBus_any.abortSeq fun _ => raisesInner_endSession.bind fun _ => raisesInner_raise (h e rfl)

end RaisesInner

/-! Operations that take the lock. -/

/-- From `s` on `x` raises no refusal, and where it waits at `Lock()` the result is the one of `s`. -/
def State.locksTo {α : Type} (s : State) (x : Op α) (Q : α → Prop) : Prop :=
  Meets True (fun u => u.result = s.result) x (fun a _ => Q a) (fun e _ => e.isInner) fun u => u.result = s.result

section Locking

variable {α β : Type} {s : State}

theorem RaisesInner.attempt {x : Op α} (h : RaisesInner x) {R : Err → State → Prop} {W : State → Prop} :
    Meets True (fun _ => True) (attempt x) (fun r _ => Hides r) R W :=
  ((meets_attempt h).mono (fun _ _ hr e he => by subst he; exact hr) (fun _ _ => id) fun _ => False.elim)

/-- Past `Lock()` an operation does not wait. -/
theorem locksTo_acquire (k : Hold) {f : Unit → Op β} {Q : β → Prop}
    (hf : Meets True (fun _ => True) (f ()) (fun a _ => Q a) (fun e _ => e.isInner) fun _ => False) :
    s.locksTo (acquire k >>= f) Q := by
  refine meets_bind (Q := fun _ _ => True) (fun u hu => ?_) fun _ => hf.mono (fun _ _ => id) (fun _ _ => id) fun _ => False.elim
  obtain ⟨-, h⟩ | ⟨a, -, -, h⟩ | ⟨-, h⟩ := acquire_cases k u
  · rw [h]
    trivial
  · rw [h]
    exact hu
  · rw [h]
    trivial

theorem locksTo_underLock (k : Hold) {x : Op α} (hx : RaisesInner x) :
    s.locksTo (underLock k x) Hides :=
  locksTo_acquire k (meets_bind hx.attempt fun _ => fun u hr =>
    meets_bind (Q := fun _ _ => True) (T := fun r _ => Hides r) raisesInner_unlock
      (fun _ => meets_pure fun _ _ => hr) u trivial)

theorem locksTo_dfuUpload (k : Hold) {image : List Byte} (hn : imageSizeLegal image.length = true) :
    s.locksTo (dfuUpload k image) fun _ => True :=
  meets_bind (Q := fun _ u => u.result = s.result) (fun _ hu => hu) fun _ => meets_ite
    (fun _ => locksTo_acquire k ((raisesInner_modify _).bind fun _ => meets_bind (raisesInner_sessionBody hn).attempt
      fun _ u hr => raisesInner_closeSession hr u trivial))
    fun h => absurd hn h

end Locking

/-! Replies. -/

/-- A reply in `u` to a request that began in `s`: an error is Internal, or a refusal with nothing shown before it. -/
def State.repliesTo (s : State) (r : Reply) (u : State) : Prop :=
  ∀ e, r = .error e → ((∃ w, e = .notFound w) ∨ ∃ w, e = .badRequest w) ∧ u.trace = s.trace ∨ ∃ c, e = .internal c

/-- All that the request `x` can do from `s`, as far as its reply goes. -/
def State.answersBy (s : State) (x : Op Reply) : Prop :=
  Meets True (· = s) x s.repliesTo (fun _ _ => True) fun u => u.result = s.result

section Replies

variable {α : Type} {s u : State}

theorem repliesTo_value (v : Value) : s.repliesTo (.value v) u := nofun

theorem repliesTo_replyOf {r : Except Err α} (h : Hides r) (f : α → Value) : s.repliesTo (replyOf f r) u := by
  cases r with
  | ok a => exact repliesTo_value _
  | error e =>
    obtain ⟨c, hc⟩ := h e rfl
    rintro _ ⟨⟩
    exact .inr ⟨c, hc⟩

/-- What is answered without the lock is a value or a refusal (45_control R452, R453, R463, R467). -/
theorem repliesTo_immediate {c d : Cfg} {i : Instr} {r : Reply} (h : immediateReply c i = some (r, d)) (hu : u.trace = s.trace) :
    s.repliesTo r u := by
  rintro e rfl
  refine .inl ⟨?_, hu⟩
  unfold immediateReply at h
  grind

theorem answersBy_orImmediate {i : Instr} {x : Op Reply} (hx : immediateReply s.cfg i = none → s.answersBy x) :
    s.answersBy (orImmediate i x) := by
  intro u hu
  rw [hu]
  cases h : immediateReply s.cfg i with
  | none =>
    rw [orImmediate_none h]
    exact hx h _ rfl
  | some c =>
    obtain ⟨r, d⟩ := c
    rw [orImmediate_some h]
    exact repliesTo_immediate h rfl

/-- A request that is one operation under the lock. -/
theorem answersBy_underLock (k : Hold) {x : Op α} {f : Except Err α → Op Reply} (hx : RaisesInner x)
    (hf : ∀ r, Hides r → Meets True (fun _ => True) (f r) s.repliesTo (fun _ _ => True) fun u => u.result = s.result) :
    s.answersBy (underLock k x >>= f) :=
  meets_bind (((locksTo_underLock k hx).mono (fun _ _ => id) (fun _ _ _ => trivial) fun _ => id).pre fun _ h => by rw [h])
    fun r u hr => hf r hr u trivial

theorem answersBy_cSnapshot : s.answersBy cSnapshot :=
  answersBy_underLock _ raisesInner_readMeasurements fun r hr => by
    cases r with
    | ok m => exact meets_bind (Q := fun _ _ => True) (fun _ _ => trivial) fun _ => meets_pure fun _ _ => repliesTo_value _
    | error e => exact meets_pure fun _ _ => repliesTo_replyOf hr .snapshot

theorem answersBy_cGetUsb {p : Int} (hp : portLegal p = true) : s.answersBy (cGetUsb p) :=
  answersBy_underLock _ (raisesInner_getUsb hp) fun _ hr => meets_pure fun _ _ => repliesTo_replyOf hr _

theorem answersBy_cSetUsb {p : Int} (hp : portLegal p = true) (on : Bool) : s.answersBy (cSetUsb p on) :=
  answersBy_underLock _ (raisesInner_setUsb hp on) fun _ hr => meets_pure fun _ _ => repliesTo_replyOf hr _

theorem answersBy_cShutdown : s.answersBy cShutdown :=
  answersBy_underLock _ onBus_any.requestShutdown.raisesInner fun _ hr =>
    meets_bind (Q := fun _ _ => True) (fun _ _ => trivial) fun _ => meets_pure fun _ _ => repliesTo_replyOf hr _

theorem answersBy_standbyWrite (n : Nat) : s.answersBy (standbyWrite n) :=
  answersBy_underLock _ (onBus_any.requestStandby (.inl trivial)).raisesInner fun _ hr =>
    meets_pure fun _ _ => repliesTo_replyOf hr _

theorem answersBy_cStandby (arg : StandbyArg) : s.answersBy (cStandby arg) := by
  cases arg with
  | delay d => exact answersBy_standbyWrite _
  | datetime w =>
    intro u hu
    obtain ⟨h, p, hp⟩ := draws_popWall s
    have hdrawn := answersBy_standbyWrite (s := { s with inp := p }) (datetimeDelay w h) _ rfl
    have hrun : cStandby (.datetime w) s = standbyWrite (datetimeDelay w h) { s with inp := p } := Op.bind_ok hp
    rw [hu, hrun]
    exact hdrawn
  | other given => exact fun _ hs => repliesTo_immediate (c := s.cfg) (i := .cStandby (.other given)) rfl (by rw [hs])

theorem answersBy_cUpload (image : List Byte) : s.answersBy (cUpload (dfuUpload (.uploadRequest image) image)) := by
  by_cases hn : imageSizeLegal image.length = true
  · have hupload := (locksTo_dfuUpload (s := s) (.uploadRequest image) hn).pre (P' := (· = s)) fun _ h => by rw [h]
    refine meets_bind (meets_attempt hupload) fun r => ?_
    cases r with
    | ok a => exact meets_pure fun _ _ => repliesTo_value _
    | error e => exact meets_pure fun _ he => repliesTo_replyOf (r := (.error e : Except Err Unit)) (by rintro _ ⟨⟩; exact he) _
  · intro u hu
    rw [hu, cUpload_raise (dfuUpload_refused hn _)]
    exact repliesTo_immediate (c := s.cfg) (i := .cUpload image) (d := s.cfg) (by simp [immediateReply, hn, mapError]) rfl

/-- A control request is one operation that answers it. -/
theorem exec_isControl {i : Instr} (h : isControl i = true) (s : State) :
    ∃ x, exec i s = finish (replying x) s ∧ s.answersBy x := by
  have config (i : Instr) : s.answersBy (answered i) := answersBy_orImmediate fun _ =>
    meets_pure fun _ hs => by rintro _ ⟨⟩; exact .inl ⟨.inr ⟨_, rfl⟩, by rw [hs]⟩
  cases i
  case cSnapshot => exact ⟨_, rfl, answersBy_cSnapshot⟩
  case cGetConfig | cSetConfig => exact ⟨_, rfl, config _⟩
  case cGetUsb p => exact ⟨_, rfl, answersBy_orImmediate fun hp => answersBy_cGetUsb (by simpa [immediateReply] using hp)⟩
  case cSetUsb p on => exact ⟨_, rfl, answersBy_orImmediate fun hp => answersBy_cSetUsb (by simpa [immediateReply] using hp) on⟩
  case cShutdown => exact ⟨_, rfl, answersBy_cShutdown⟩
  case cStandby arg => exact ⟨_, rfl, answersBy_orImmediate fun _ => answersBy_cStandby arg⟩
  case cUpload image => exact ⟨_, rfl, answersBy_cUpload image⟩
  all_goals simp [isControl] at h

/-- A new reply is the request's own. -/
theorem replying_next {x : Op Reply} {t : State} {r : Reply} (hx : s.answersBy x) (h : finish (replying x) s = .next t)
    (hr : t.result = some (.reply r)) (hne : s.result ≠ t.result) : ∃ u, x s = .ok r u ∧ t = u.answered r := by
  have hend := hx s rfl
  cases e : x s with
  | ok r' u =>
    rw [replying_ok e] at h
    cases h
    cases hr
    exact ⟨u, rfl, rfl⟩
  | error c u =>
    rw [e] at hend
    have herr : replying x s = .error c u := Op.bind_error e
    cases c with
    | raise c =>
      rw [finish_raise herr] at h
      cases h
      cases hr
    | wait =>
      rw [finish_wait herr] at h
      cases h
      exact absurd hend.symm hne
    | cut =>
      rw [finish_cut herr] at h
      cases h
      cases hr
    | stop f =>
      rw [finish_stop herr] at h
      cases h

end Replies

/-- Settles O54: a reply comes from the request's own operation, which hides all but its refusals. -/
theorem refusedWithoutTraffic : Obligations.RefusedWithoutTraffic := by
  unfold Obligations.RefusedWithoutTraffic
  intro i s t e hi h hr hne
  obtain ⟨x, hexec, hx⟩ := exec_isControl hi s
  rw [hexec] at h
  obtain ⟨u, hu, rfl⟩ := replying_next hx h hr hne
  obtain ⟨hrefusal, htrace⟩ | hinner := hx.of_ok rfl hu e rfl
  · have hquiet : s.newEvents (u.answered (.error e)) = [] := State.newEvents_append (es := []) (by simp [State.answered, htrace])
    exact .inl ⟨hrefusal, by simp [hquiet]⟩
  · exact .inr hinner

end Sys2Proof.Machine
end

section
/-! PROOFS. Requests that are one operation under the lock: what became of the operation is the reply (O51, O52, O53). -/

namespace Sys2Proof.Machine

/-! One hold. -/

/-- `x` leaves the lock and the supervisor's registers alone at every end, and does not wait. -/
def KeepsHold {α : Type} (x : Op α) : Prop := ∀ s : State, Runs True (fun t => t.supFace = s.supFace) x

theorem keepsHold_getUsb (p : Int) : KeepsHold (getUsb p) := fun s => (onBus_supFace s).getUsb p

theorem keepsHold_setUsb (p : Int) (on : Bool) : KeepsHold (setUsb p on) := fun s => (onBus_supFace s).setUsb p on

theorem keepsHold_requestStandby (seconds : Nat) : KeepsHold (requestStandby seconds) := fun s =>
  ((onBus_supFace s).requestStandby (.inl trivial)).runs

theorem IsTransaction.keepsHold {α : Type} {x : Op α} (hx : IsTransaction x) : KeepsHold x := fun s => (hx s).runs

section Hold

variable {α : Type} {s u v : State} {x : Op α} {k : Hold}

/-- Under a hold taken from `s`, `x` gives its value or raises its error to the request, and the lock is released. -/
theorem underLock_of_ok (hl : s.canLock) (hx : KeepsHold x) {a : α} (h : x s.takeLock = .ok a v) :
    underLock k x s = .ok (.ok a) v.dropLock :=
  underLock_eq k hl (attempt_ok h) (State.holds_of_supFace ((hx s.takeLock).of_ok rfl h) rfl)

theorem underLock_of_raise (hl : s.canLock) (hx : KeepsHold x) {e : Err} (h : x s.takeLock = .error (.raise e) v) :
    underLock k x s = .ok (.error e) v.dropLock :=
  underLock_eq k hl (attempt_raise h) (State.holds_of_supFace ((hx s.takeLock).of_raise rfl h) rfl)

theorem underLock_of_error (hl : s.canLock) {e : Exc} (h : x s.takeLock = .error e v) (he : ∀ r, e ≠ .raise r) :
    underLock k x s = .error e v :=
  (Op.bind_ok (acquire_free k hl)).trans (Op.bind_error (attempt_error h he))

/-- An operation that ends early without an error or a wait goes on to a next state only where host power was cut. -/
theorem wasCut_of_ended {y : Op Result} {t : State} {e : Exc} (h : y s = .error e v) (hr : ∀ r, e ≠ .raise r)
    (hw : e ≠ .wait) (hn : finish y s = .next t) : t.wasCut := by
  cases e with
  | raise r => exact absurd rfl (hr r)
  | wait => exact absurd rfl hw
  | cut => exact ⟨v, Host.Outcome.next.inj (hn.symm.trans (finish_cut h))⟩
  | stop f => cases hn.symm.trans (finish_stop h)

/-- An operation whose meaning has a result comes to it under a hold as well. -/
theorem underLock_of_next (hl : s.canLock) (hx : KeepsHold x) {f : α → Value}
    (h : finish (giving f x) s.takeLock = .next u) (hu : u.result ≠ none) :
    (∃ a, ∃ v : State, underLock k x s = .ok (.ok a) v.dropLock ∧ u = v.gives (f a)) ∨
      ∃ e, ∃ v : State, underLock k x s = .ok (.error e) v.dropLock ∧ u = v.fails e := by
  have hwait : ∀ w, x s.takeLock ≠ .error .wait w := fun w hw => by
    have hend := hx s.takeLock _ rfl
    rwa [hw] at hend
  obtain ⟨a, v, hv, rfl⟩ | ⟨e, v, hv, rfl⟩ | ⟨v, -, rfl⟩ := giving_next hwait h
  · exact .inl ⟨a, v, underLock_of_ok hl hx hv, rfl⟩
  · exact .inr ⟨e, v, underLock_of_raise hl hx hv, rfl⟩
  · exact absurd rfl hu

/-- A request that is one operation under the lock replies the operation's value, and an error as 45_control R471 says. -/
theorem replying_of_hold {t : State} {y : Op Reply} {f : α → Value}
    (hy : y t = (underLock k x >>= fun r => return replyOf f r) s) (hl : s.canLock) (hx : KeepsHold x)
    (h : finish (giving f x) s.takeLock = .next u) :
    (∀ val, u.result = some (.value val) → finish (replying y) t = .next (u.dropLock.answered (.value val))) ∧
      ∀ e, u.result = some (.error e) → finish (replying y) t = .next (u.dropLock.answered (.error (mapError e))) := by
  refine ⟨fun val hu => ?value, fun e hu => ?error⟩
  all_goals
    obtain ⟨a, v, hv, rfl⟩ | ⟨e', v, hv, rfl⟩ := underLock_of_next (k := k) hl hx h (by simp [hu])
    all_goals cases hu
    have hrun := hy.trans (Op.bind_ok hv)
    exact (replying_ok hrun :)

end Hold

/-! The snapshot and the USB rails (45_control R451, R463, R464). -/

section Requests

variable {s u : State} {p : Nat}

theorem cSnapshot_value (hl : s.canLock) {m : Snapshot} (h : exec .readMeasurements s.takeLock = .next u)
    (hu : u.result = some (.value (.snapshot m))) :
    exec .cSnapshot s = .next ({ u.dropLock with measLast := some m }.answered (.value (.snapshot m))) := by
  obtain ⟨a, v, hv, rfl⟩ | ⟨e, v, -, rfl⟩ :=
    underLock_of_next (k := .snapshot) hl isTransaction_readMeasurements.keepsHold h (by simp [hu])
  · cases hu
    have hrun : cSnapshot s = .ok (.value (.snapshot m)) { v.dropLock with measLast := some m } := Op.bind_ok hv
    exact (replying_ok hrun :)
  · cases hu

theorem cSnapshot_error (hl : s.canLock) {e : Err} (h : exec .readMeasurements s.takeLock = .next u)
    (hu : u.result = some (.error e)) : exec .cSnapshot s = .next (u.dropLock.answered (.error (mapError e))) := by
  obtain ⟨a, v, -, rfl⟩ | ⟨e, v, hv, rfl⟩ :=
    underLock_of_next (k := .snapshot) hl isTransaction_readMeasurements.keepsHold h (by simp [hu])
  · cases hu
  · cases hu
    have hrun : cSnapshot s = .ok (.error (mapError e)) v.dropLock := Op.bind_ok hv
    exact (replying_ok hrun :)

theorem cGetUsb_follows (hl : s.canLock) (hp : p ≤ 3) (h : exec (.getUsb p) s.takeLock = .next u) :
    (∀ val, u.result = some (.value val) → exec (.cGetUsb p) s = .next (u.dropLock.answered (.value val))) ∧
      ∀ e, u.result = some (.error e) → exec (.cGetUsb p) s = .next (u.dropLock.answered (.error (mapError e))) :=
  replying_of_hold (orImmediate_none (by simp [immediateReply, portLegal_natCast hp])) hl (keepsHold_getUsb p) h

theorem cSetUsb_follows (hl : s.canLock) (hp : p ≤ 3) {on : Bool} (h : exec (.setUsb p on) s.takeLock = .next u) :
    (∀ val, u.result = some (.value val) → exec (.cSetUsb p on) s = .next (u.dropLock.answered (.value val))) ∧
      ∀ e, u.result = some (.error e) → exec (.cSetUsb p on) s = .next (u.dropLock.answered (.error (mapError e))) :=
  replying_of_hold (f := fun _ => .unit) (orImmediate_none (by simp [immediateReply, portLegal_natCast hp])) hl
    (keepsHold_setUsb p on) h

end Requests

/-- GET_USB is among the USB reads of O15. -/
theorem mem_usbReads {p : Nat} (hp : p ≤ 3) : ∃ i, (i, p) ∈ usbReads := by
  obtain rfl | rfl | rfl | rfl : p = 0 ∨ p = 1 ∨ p = 2 ∨ p = 3 := by omega
  all_goals exact ⟨_, by simp [usbReads]; rfl⟩

/-- Settles O51: each request follows its operation under the hold, whose completions are O13, O15 and O17. -/
theorem busRequests : Obligations.BusRequests := by
  unfold Obligations.BusRequests
  intro s u hl
  refine ⟨?snapshot, fun p r b d hp hr h => ?rail, fun p on r d hp hr h => ?setRail, fun m h hu => cSnapshot_value hl h hu,
    fun e h hu => cSnapshot_error hl h hu, fun p v hp h hu => (cGetUsb_follows hl hp h).1 _ hu,
    fun p e hp h hu => (cGetUsb_follows hl hp h).2 _ hu, fun p r b hp h hu => (cGetUsb_follows hl hp h).2 _ hu,
    fun p on hp h hu => (cSetUsb_follows hl hp h).1 _ hu, fun p on e hp h hu => (cSetUsb_follows hl hp h).2 _ hu⟩
  case snapshot =>
    intro s1 s2 s3 s4 s5 s6 d0 d1 d2 d3 d4 d5 a0 b0 a1 b1 a2 b2 a3 b3 a4 b4 p m hd h0 e1 h1 e2 h2 e3 h3 e4 h4 e5 h5 e6 hm
    subst hm
    have hread := snapshotCompletes s.takeLock s1 s2 s3 s4 s5 s6 d0 d1 d2 d3 d4 d5 a0 b0 a1 b1 a2 b2 a3 b3 a4 b4 p
      hd h0 e1 h1 e2 h2 e3 h3 e4 h4 e5 h5 e6
    exact (cSnapshot_value hl hread rfl :)
  case rail =>
    obtain ⟨i, hi⟩ := mem_usbReads hp
    obtain ⟨hoff, hon, hbad⟩ := usbReads_hold (i, p) hi (.getUsb p) (by simp) s.takeLock d r b hr h
    exact ⟨fun hb => (cGetUsb_follows hl hp (hoff hb)).1 _ rfl, fun hb => (cGetUsb_follows hl hp (hon hb)).1 _ rfl,
      fun hb => (cGetUsb_follows hl hp (hbad hb)).2 _ rfl⟩
  case setRail =>
    obtain ⟨-, -, hset, -⟩ := namedWrites s.takeLock d
    exact (cSetUsb_follows hl hp (hset p on r hp hr h)).1 _ rfl

end Sys2Proof.Machine
end

section
/-! PROOFS. The requests that write and go on: C_SHUTDOWN with its intent (O52), C_STANDBY with its delay (O53). -/

namespace Sys2Proof.Machine

/-! C_SHUTDOWN (45_control R466). -/

section Shutdown

variable {s v : State} {d : BusDraw} {f : Failure}

/-- Past the write the intent is set, whatever became of it (10_state R36). -/
theorem exec_cShutdown_of_underLock {r : Except Err Unit} (h : underLock .shutdown requestShutdown s = .ok r v) :
    exec .cShutdown s = .next ({ v with intent := true }.answered (replyOf (fun _ => .unit) r)) :=
  replying_ok (x := cShutdown) (Op.bind_ok h)

theorem cShutdown_of_error (hl : s.canLock) {e : Exc} (h : requestShutdown s.takeLock = .error e v) (hr : ∀ r, e ≠ .raise r) :
    replying cShutdown s = .error e v :=
  Op.bind_error (Op.bind_error (underLock_of_error hl h hr))

/-- What C_SHUTDOWN leaves, whatever was answered: the intent, the lock released, the power machine as it was, and a reply that is ok
or Internal. -/
def State.shutdownAsked (s t : State) : Prop :=
  t.intent = true ∧ t.fsm = s.fsm ∧ t.step1Done = s.step1Done ∧ t.holder = none ∧
    (t.result = some (.reply (.value .unit)) ∨ ∃ e, t.result = some (.reply (.error (.internal (.transport e)))))

theorem shutdownAsked_of_supFace {r : Except Err Unit} (h : v.supFace = s.takeLock.supFace)
    (hr : ∀ e, r = .error e → ∃ f, e = .transport f) :
    s.shutdownAsked ({ v.dropLock with intent := true }.answered (replyOf (fun _ => .unit) r)) := by
  obtain ⟨hfsm, hdone, -⟩ := State.supFace_eq h
  refine ⟨rfl, hfsm, hdone, rfl, ?_⟩
  cases r with
  | ok a => exact .inl rfl
  | error e =>
    obtain ⟨f, rfl⟩ := hr e rfl
    exact .inr ⟨f, rfl⟩

theorem cShutdown_next {t : State} (hl : s.canLock) (h : exec .cShutdown s = .next t) : t.wasCut ∨ s.shutdownAsked t := by
  have hx := isTransaction_requestShutdown
  cases hrun : requestShutdown s.takeLock with
  | ok a v =>
    rw [exec_cShutdown_of_underLock (underLock_of_ok hl hx.keepsHold hrun)] at h
    cases h
    exact .inr (shutdownAsked_of_supFace (hx.ok hrun) nofun)
  | error c v =>
    cases c with
    | raise e =>
      obtain ⟨hraise, hface⟩ := (hx s.takeLock).of_raise rfl hrun
      rw [exec_cShutdown_of_underLock (underLock_of_raise hl hx.keepsHold hrun)] at h
      cases h
      exact .inr (shutdownAsked_of_supFace hface fun _ he => by cases he; exact hraise)
    | wait => exact absurd hrun (hx.not_wait v)
    | cut | stop => exact .inl (wasCut_of_ended (cShutdown_of_error hl hrun nofun) nofun nofun h)

end Shutdown

/-- Settles O52: the write under the hold, then the intent. -/
theorem shutdownRequest : Obligations.ShutdownRequest := by
  unfold Obligations.ShutdownRequest
  intro s hl
  have hx := isTransaction_requestShutdown.keepsHold
  refine ⟨fun d h => ?ok, fun d f hd hanswer hf => ?fatal, fun t h => cShutdown_next hl h⟩
  case ok => exact exec_cShutdown_of_underLock (underLock_of_ok hl hx (requestShutdown_writes h))
  case fatal =>
    exact exec_cShutdown_of_underLock (underLock_of_raise hl hx (wruN_fatal (k := 1) (n := 1) (by decide) hd hanswer hf))

/-! C_STANDBY (45_control R467 to R469). -/

section Standby

variable {s s0 u : State} {arg : StandbyArg} {n : Nat}

/-- Served from `s`, the request `arg` comes to `Lock()` in `s0` with a delay of `n` seconds. -/
def State.delays (s : State) (arg : StandbyArg) (s0 : State) (n : Nat) : Prop :=
  (∃ delay : Int, arg = .delay delay ∧ 0 ≤ delay ∧ n = min delay.toNat (2 ^ 32 - 1) ∧ s0 = s) ∨
    ∃ (wake wall : Rat) (walls : List Rat), arg = .datetime wake ∧ s.inp.wall = wall :: walls ∧
      n = min (wake - wall).floor.toNat (2 ^ 32 - 1) ∧ s0 = { s with inp := { s.inp with wall := walls } }

theorem State.delays.lt (h : s.delays arg s0 n) : n < 256 ^ 4 := by
  obtain ⟨delay, -, -, rfl, -⟩ | ⟨wake, wall, walls, -, -, rfl, -⟩ := h <;> omega

theorem exec_cStandby_refused {e : Err} (h : immediateReply s.cfg (.cStandby arg) = some (.error e, s.cfg)) :
    exec (.cStandby arg) s = .next (s.answered (.error e)) :=
  replying_ok (orImmediate_some (x := cStandby arg) h)

theorem cStandby_delays (h : s.delays arg s0 n) : orImmediate (.cStandby arg) (cStandby arg) s = standbyWrite n s0 := by
  obtain ⟨delay, rfl, hpos, rfl, rfl⟩ | ⟨wake, wall, walls, rfl, hwall, rfl, rfl⟩ := h
  · rw [orImmediate_none (by simp [immediateReply, hpos]), ← clampDelay_eq]
    rfl
  · have hpop : popWall s = .ok wall { s with inp := { s.inp with wall := walls } } := by simp [popWall, hwall]
    rw [orImmediate_none rfl, ← clampDelay_eq]
    exact Op.bind_ok hpop

/-- The reply is what became of the write. -/
theorem cStandby_follows (h : s.delays arg s0 n) (hl : s0.canLock) (hw : exec (.requestStandby n) s0.takeLock = .next u) :
    (∀ val, u.result = some (.value val) → exec (.cStandby arg) s = .next (u.dropLock.answered (.value val))) ∧
      ∀ e, u.result = some (.error e) → exec (.cStandby arg) s = .next (u.dropLock.answered (.error (mapError e))) :=
  replying_of_hold (f := fun _ => .unit) (cStandby_delays h) hl (keepsHold_requestStandby n) hw

end Standby

/-- Settles O53: the two refusals come before the lock, and every other request is one write of its delay. -/
theorem standbyRequest : Obligations.StandbyRequest := by
  unfold Obligations.StandbyRequest
  intro s
  refine ⟨fun delay hneg => ?negative, fun given => ?other, fun arg s0 n h hl => ⟨fun d data hdata hw => ?written,
    fun u hu => ⟨(cStandby_follows h hl hu).1 _, fun e => (cStandby_follows h hl hu).2 _⟩⟩⟩
  case negative => exact exec_cStandby_refused (by simp [immediateReply, hneg])
  case other => exact exec_cStandby_refused rfl
  case written =>
    have hpar : s0.takeLock.par.standbyMode = s.par.standbyMode := by
      obtain ⟨-, -, -, -, rfl⟩ | ⟨-, -, -, -, -, -, rfl⟩ := h <;> rfl
    rw [← be32_eq, ← hpar] at hdata
    subst hdata
    exact (cStandby_follows h hl (doing_ok (requestStandby_writes (State.delays.lt h) hw))).1 _ rfl

end Sys2Proof.Machine
end

section
/-! PROOFS. The configuration requests, key by key (O50). -/

namespace Sys2Proof.Machine

/-! The key table (45_control R460). -/

theorem configKeys_eq : configKeys = keyTable.map Prod.fst := by decide

theorem fieldOfKey_unknown {key : Text} (h : key ∉ configKeys) : fieldOfKey key = none := by
  rw [configKeys_eq, List.mem_map] at h
  exact List.lookup_eq_none_iff.mpr fun p hp => by
    have hne : key ≠ p.1 := fun he => h ⟨p, hp, he.symm⟩
    simpa using hne

/-! The types and ranges of values (45_control R460, log 24). -/

section Values

variable {c : Cfg} {v : CfgValue}

theorem asNat_none (h : ∀ n : Nat, v ≠ .int n) : asNat v = none := by
  cases v with
  | int i => exact if_neg fun hi => h i.toNat (by rw [Int.toNat_of_nonneg hi])
  | rat q => rfl
  | text x => rfl

theorem asAddress_int {a : Int} (hl : 0x08 ≤ a) (hu : a ≤ 0x77) : asAddress (.int a) = some (BitVec.ofInt 7 a) := by
  obtain ⟨n, rfl⟩ := Int.eq_ofNat_of_zero_le (show 0 ≤ a by omega)
  exact if_pos ⟨hl, hu⟩

theorem asAddress_none (h : ∀ a : Int, 0x08 ≤ a → a ≤ 0x77 → v ≠ .int a) : asAddress v = none := by
  cases v with
  | int a => exact if_neg fun ⟨hl, hu⟩ => h a hl hu rfl
  | rat q => rfl
  | text x => rfl

theorem asRat_eq_some_iff {q : Rat} : asRat v = some q ↔ isRat v q := by
  cases v <;> simp [asRat, isRat, eq_comm]

theorem asRatIn_some {lo hi q : Rat} (h : isRat v q) (hl : lo ≤ q) (hu : q ≤ hi) : asRatIn lo hi v = some q := by
  simp [asRatIn, asRat_eq_some_iff.mpr h, hl, hu]

theorem asRatIn_none {lo hi : Rat} (h : ∀ q : Rat, lo ≤ q → q ≤ hi → ¬isRat v q) : asRatIn lo hi v = none := by
  unfold asRatIn
  split
  · next q hq => exact if_neg fun ⟨hl, hu⟩ => h q hl hu (asRat_eq_some_iff.mp hq)
  · rfl

theorem asText_none (h : ∀ x : Text, v ≠ .text x) : asText v = none := by
  cases v with
  | int i => rfl
  | rat q => rfl
  | text x => exact absurd rfl (h x)

end Values

/-! The requests (45_control R452, R453). -/

section Requests

variable {s : State} {key : Text} {f : CfgField} {v : CfgValue}

theorem exec_cGetConfig_all : exec (.cGetConfig none) s = .next (s.answered (.value (.config s.cfg))) :=
  replying_ok (x := answered (.cGetConfig none)) (orImmediate_some rfl)

theorem exec_cGetConfig_known (hf : fieldOfKey key = some f) :
    exec (.cGetConfig (some key)) s = .next (s.answered (.value (.cfgValue (getField s.cfg f)))) :=
  replying_ok (x := answered _) (orImmediate_some (by simp [immediateReply, hf]))

theorem exec_cGetConfig_unknown (hf : fieldOfKey key = none) :
    exec (.cGetConfig (some key)) s = .next (s.answered (.error (.notFound (.key key)))) :=
  replying_ok (x := answered _) (orImmediate_some (by simp [immediateReply, hf]))

theorem exec_cSetConfig_unknown (hf : fieldOfKey key = none) :
    exec (.cSetConfig key v) s = .next (s.answered (.error (.notFound (.key key)))) :=
  replying_ok (x := answered _) (orImmediate_some (by simp [immediateReply, hf]))

theorem exec_cSetConfig_set (hf : fieldOfKey key = some f) {c : Cfg} (hc : setField s.cfg f v = some c) :
    exec (.cSetConfig key v) s = .next ({ s with cfg := c }.answered (.value .unit)) :=
  replying_ok (x := answered _) (orImmediate_some (by simp [immediateReply, hf, hc]))

theorem exec_cSetConfig_bad (hf : fieldOfKey key = some f) (hc : setField s.cfg f v = none) :
    exec (.cSetConfig key v) s = .next (s.answered (.error (.badRequest (.value v)))) :=
  replying_ok (x := answered _) (orImmediate_some (by simp [immediateReply, hf, hc]))

end Requests

/-- Settles O50: a key finds its field in the table, and a value is set if it is of the field's type and in its range. -/
theorem configRequests : Obligations.ConfigRequests := by
  unfold Obligations.ConfigRequests
  intro s
  have bus : fieldOfKey (asciiText "i2c_bus") = some .busIndex := by decide
  have address : fieldOfKey (asciiText "i2c_addr") = some .deviceAddress := by decide
  have voltage : fieldOfKey (asciiText "blackout_voltage_limit") = some .vlim := by decide
  have time : fieldOfKey (asciiText "blackout_time_limit") = some .tlim := by decide
  have socket : fieldOfKey (asciiText "socket") = some .socketPath := by decide
  have group : fieldOfKey (asciiText "socket_group") = some .socketGroup := by decide
  have poweroff : fieldOfKey (asciiText "poweroff") = some .poweroff := by decide
  refine ⟨exec_cGetConfig_all, exec_cGetConfig_known bus, exec_cGetConfig_known address,
    exec_cGetConfig_known voltage, exec_cGetConfig_known time, exec_cGetConfig_known socket, exec_cGetConfig_known group,
    exec_cGetConfig_known poweroff, fun key hkey => ?unknown, fun n => exec_cSetConfig_set bus rfl, fun v h => ?badBus,
    fun a hl hu => ?address, fun v h => ?badAddress, fun v q h hl hu => ?voltage, fun v h => ?badVoltage,
    fun v q h hl hu => ?time, fun v h => ?badTime,
    fun x => ⟨exec_cSetConfig_set socket rfl, exec_cSetConfig_set group rfl, exec_cSetConfig_set poweroff rfl⟩,
    fun v h key hkey => ?badText⟩
  case unknown =>
    have hnone := fieldOfKey_unknown hkey
    exact ⟨exec_cGetConfig_unknown hnone, fun v => exec_cSetConfig_unknown hnone⟩
  case badBus => exact exec_cSetConfig_bad bus (by simp [setField, asNat_none h])
  case address => exact exec_cSetConfig_set address (by simp [setField, asAddress_int hl hu])
  case badAddress => exact exec_cSetConfig_bad address (by simp [setField, asAddress_none h])
  case voltage => exact exec_cSetConfig_set voltage (by simp [setField, asRatIn_some h hl hu])
  case badVoltage => exact exec_cSetConfig_bad voltage (by simp [setField, asRatIn_none h])
  case time => exact exec_cSetConfig_set time (by simp only [setField, asRatIn_some h hl hu, Option.map_some])
  case badTime => exact exec_cSetConfig_bad time (by simp only [setField, asRatIn_none h, Option.map_none])
  case badText =>
    have hnone := asText_none h
    simp only [List.mem_cons, List.not_mem_nil, or_false] at hkey
    obtain rfl | rfl | rfl := hkey
    · exact exec_cSetConfig_bad socket (by simp [setField, hnone])
    · exact exec_cSetConfig_bad group (by simp [setField, hnone])
    · exact exec_cSetConfig_bad poweroff (by simp [setField, hnone])

end Sys2Proof.Machine
end

section
/-! PROOFS. A USB rail that was set reads back as set (O19): a write that succeeded is the companion's last, and what a read makes
known of a rail is what was written to it (45_control R465, 60_exceptions R631, R633). -/

namespace Sys2Proof.Machine

/-! The companion's rails. -/

/-- A rail reads back as `v`: so the known registers have it, or the reference companion (60_exceptions R631, R633). -/
def Companion.railIs (c : Companion) (r v : Byte) : Prop :=
  match c.ref with
  | none => c.mem.byteAt r.toNat = some v
  | some p => p.usb.getD (r.toNat - 0x26) 0 = v

/-- A reference companion has four rails. -/
def Companion.hasRails (c : Companion) : Prop := ∀ p, c.ref = some p → p.usb.length = 4

section Rails

variable {c : Companion} {any : Bool} {now : Nat} {r v : Byte} {resp : BusResp} {f : Failure}

/-- A rail written reads back as written. -/
theorem answerWrite_railIs (hr : isUsbReg r = true) (hv : v = 0 ∨ v = 1) (hc : c.hasRails)
    (h : (c.answerWrite any now r [v] resp).1 = .ok ()) : (c.answerWrite any now r [v] resp).2.railIs r v := by
  unfold Companion.answerWrite at h ⊢
  split at h
  · next href =>
    have hok : succeeded (oracleWrite resp) = true := by
      dsimp only at h
      rw [h]
      rfl
    have hbit : v = 0#8 ∨ v = 1#8 := hv
    simp [Companion.railIs, Companion.answerWrite.settle, href, hok, noteWrite, hr, hbit, byteAt]
  · next p href =>
    have hlen := hc p href
    simp only [isUsbReg, Bool.and_eq_true, decide_eq_true_eq] at hr
    have hin : r.toNat - 0x26 < p.usb.length := by omega
    simp [Companion.railIs, Companion.answerWrite.settle, refWrite, isUsbReg, hr, hin, byteAt]

/-- Only a companion that is no reference companion fails a write. -/
theorem answerWrite_hasRails {data : List Byte} (h : (c.answerWrite any now r data resp).1 = .error f) :
    (c.answerWrite any now r data resp).2.hasRails := by
  unfold Companion.answerWrite at h ⊢
  split at h
  · next href => simp [Companion.hasRails, Companion.answerWrite.settle, href]
  · cases h

theorem answerRead_settle_rails (any : Bool) (now : Nat) (res : Except Failure (List Byte)) (c : Companion) :
    (Companion.answerRead.settle any now res c).1 = res ∧ (Companion.answerRead.settle any now res c).2.mem = c.mem ∧
      (Companion.answerRead.settle any now res c).2.ref = c.ref := by
  cases res <;> exact ⟨rfl, rfl, rfl⟩

/-- The reference companion reads a rail and leaves itself as it was (60_exceptions R633). -/
theorem refRead_rail (hr : isUsbReg r = true) (p : RefCompanion) :
    refRead p r 1 resp = ([p.usb.getD (r.toNat - 0x26) 0], p) := by
  have hrange := hr
  simp only [isUsbReg, Bool.and_eq_true, decide_eq_true_eq] at hrange
  have hstatus : r.toNat ≠ 0x41 := by omega
  simp [refRead, hr, hstatus]

/-- A read of a rail gives what the rail is, if it gives a byte (60_exceptions R631). -/
theorem oracleRead_rail {m : Memory} {bs : List Byte} (hr : isUsbReg r = true) (hm : m.byteAt r.toNat = some v)
    (h : oracleRead m r 1 resp = .ok bs) : bs = [v] := by
  cases resp with
  | data ds =>
    simp only [oracleRead] at h
    split at h
    · cases h
    · rw [if_pos (by simp [hr]), hm] at h
      cases h
      rfl
  | short => exact absurd h (by simp [oracleRead])
  | device e => cases h

/-- A read leaves a rail as it was and gives nothing else. -/
theorem answerRead_rail (hr : isUsbReg r = true) (hc : c.railIs r v) :
    (c.answerRead any now r 1 resp).2.railIs r v ∧ ∀ bs, (c.answerRead any now r 1 resp).1 = .ok bs → bs = [v] := by
  unfold Companion.answerRead Companion.railIs at *
  cases href : c.ref with
  | none =>
    rw [href] at hc
    obtain ⟨hres, hmem, hkeep⟩ := answerRead_settle_rails any now (oracleRead c.mem r 1 resp) c
    simp only [hres, hmem, hkeep, href]
    exact ⟨hc, fun bs h => oracleRead_rail hr hc h⟩
  | some p =>
    rw [href] at hc
    obtain ⟨hres, -, hkeep⟩ := answerRead_settle_rails any now (.ok [p.usb.getD (r.toNat - 0x26) 0]) { c with ref := some p }
    simp only [refRead_rail hr, hres, hkeep]
    exact ⟨hc, fun bs h => by cases h; rw [← hc]⟩

end Rails
/-! The write. -/

/-- The event shows no successful write to `r`. -/
def Event.spares (r : Byte) (e : Event) : Prop := e.writtenTo r = none

/-- From `s` to `u` nothing was written to `r`, and a reference companion has its rails. -/
def State.unset (s : State) (r : Byte) (u : State) : Prop := s.addsOnly (Event.spares r) u ∧ u.comp.hasRails

/-- In `u` the rail `r` reads back as `v`, if since `s` anything was written to it. -/
def State.setIf (s : State) (r v : Byte) (u : State) : Prop := u.comp.railIs r v ∨ s.addsOnly (Event.spares r) u

/-- Where nothing was written to `r` since `s`, `x` leaves it reading back as `v`, if it wrote to it at all. -/
def Sets {α : Type} (s : State) (r v : Byte) (x : Op α) : Prop :=
  Meets True (s.unset r) x (fun _ => s.setIf r v) (fun _ => s.setIf r v) (s.setIf r v)

section Write

variable {α : Type} {s u t : State} {r v : Byte} {R : Err → State → Prop} {W : State → Prop}

theorem spares_of_routine (hr : isUsbReg r = true) (e : Event) (h : e.isRoutine = true) : e.spares r := by
  cases e with
  | write q data res =>
    obtain rfl : q = 0x10 := by simpa [Event.isRoutine] using h
    have hne : 0x10#8 ≠ r := by rintro rfl; simp [isUsbReg] at hr
    cases res <;> simp [Event.spares, Event.writtenTo, hne]
  | _ => rfl

theorem lasts_unset (hr : isUsbReg r = true) (s : State) : Lasts (s.unset r) :=
  fun ⟨hadds, hrails⟩ l => ⟨s.lasts_addsOnly (spares_of_routine hr) hadds l, by cases l <;> exact hrails⟩

theorem meets_suspend_unset (hr : isUsbReg r = true) (ms : Nat) (p : Susp) :
    Meets True (s.unset r) (suspend ms p) (fun _ => s.unset r) R W := by
  intro u hu
  obtain ⟨till, -, -, e⟩ | e := suspend_cases ms p u
  · rw [e]
    trivial
  · rw [e]
    exact Lasts.elapse (lasts_unset hr s) hu _ _

theorem State.addsOnly.emit {E : Event → Prop} (h : s.addsOnly E u) {e : Event} (he : E e) : s.addsOnly E (u.emit e) :=
  h.trans (State.addsOnly_event rfl he)

theorem meets_sleep_unset (hr : isUsbReg r = true) (ms : Nat) :
    Meets True (s.unset r) (sleep ms) (fun _ => s.unset r) R W :=
  meets_bind (Q := fun _ => s.unset r) (fun _ ⟨h, hc⟩ => ⟨h.emit rfl, hc⟩) fun _ =>
    meets_bind (draws_popSleep.meets fun _ _ _ h => h) fun _ => meets_suspend_unset hr _ _

/-- A write attempt sets the rail, or leaves it unset. -/
theorem meets_memWrite_rail (hr : isUsbReg r = true) (hv : v = 0 ∨ v = 1) :
    Meets True (s.unset r) (memWrite r [v])
      (fun res u => (res = .ok () → u.comp.railIs r v) ∧ ∀ f, res = .error f → s.unset r u) R W := by
  refine meets_bind meets_guardBus fun _ => meets_bind (draws_popBus.meets fun _ _ _ h => h) fun d =>
    meets_bind (meets_suspend_unset hr _ _).onCut fun _ => fun u ⟨hadds, hrails⟩ =>
      ⟨answerWrite_railIs hr hv hrails, fun f h => ⟨hadds.trans (State.addsOnly_event rfl ?_), answerWrite_hasRails h⟩⟩
  rw [h]
  rfl

/-- A write to a rail that goes on has set it; where it is given up nothing was written. -/
theorem meets_wrreg_rail (hr : isUsbReg r = true) (hv : v = 0 ∨ v = 1) :
    Meets True (s.unset r) (wrreg r [v]) (fun _ u => u.comp.railIs r v) (fun _ => s.addsOnly (Event.spares r)) fun _ => False :=
  (meets_retryLoop (P := fun _ => s.unset r) (Q := fun _ _ u => u.comp.railIs r v)
    (fun _ => (meets_memWrite_rail hr hv).mono
      (fun res _ ⟨hset, hunset⟩ => by cases res with | ok => exact hset rfl | error f => exact hunset f rfl)
      (fun _ _ => id) fun _ => id)
    (fun _ => meets_sleep_unset hr _) retryMax []).mono
    (fun _ _ ⟨_, _, hset⟩ => hset) (fun _ _ ⟨_, _, _, _, hadds, _⟩ => hadds) fun _ => id

/-! The write by SET_USB and by C_SET_USB (41_register_ops R262, 45_control R464). -/

theorem isUsbReg_port {p : Nat} (hp : p ≤ 3) : isUsbReg (BitVec.ofNat 8 (0x26 + p)) = true := by
  obtain rfl | rfl | rfl | rfl : p = 0 ∨ p = 1 ∨ p = 2 ∨ p = 3 := by omega
  all_goals rfl

/-- The byte a Boolean is on a rail. -/
def railByte (on : Bool) : Byte := if on then 1 else 0

theorem railByte_bit (on : Bool) : railByte on = 0 ∨ railByte on = 1 := by cases on <;> simp [railByte]

theorem setUsb_eq {p : Nat} (hp : p ≤ 3) (on : Bool) : setUsb p on = wrreg (BitVec.ofNat 8 (0x26 + p)) [railByte on] := by
  unfold setUsb
  rw [if_pos (portLegal_natCast hp), usbReg_natCast]
  cases on <;> exact wruN_eq (k := 1) _ (by decide)

theorem sets_setUsb {p : Nat} (hp : p ≤ 3) (on : Bool) : Sets s (BitVec.ofNat 8 (0x26 + p)) (railByte on) (setUsb p on) := by
  unfold Sets
  rw [setUsb_eq hp]
  exact (meets_wrreg_rail (isUsbReg_port hp) (railByte_bit on)).mono (fun _ _ => .inl) (fun _ _ => .inr) fun _ => False.elim

/-- What does not touch the companion and shows no write keeps a rail that was set. -/
theorem State.setIf.quiet {e : Event} {n : Nat} (h : s.setIf r v u) (hc : t.comp = u.comp) (ht : t.trace = u.trace ++ [(n, e)])
    (he : e.spares r) : s.setIf r v t := by
  obtain h | h := h
  · exact .inl (by rwa [hc])
  · exact .inr (h.trans (State.addsOnly_event ht he))

theorem meets_acquire_unset (k : Hold) : Meets True (s.unset r) (acquire k) (fun _ => s.unset r) R (s.setIf r v) := by
  rintro u ⟨hadds, hrails⟩
  obtain ⟨-, e⟩ | ⟨a, -, -, e⟩ | ⟨-, e⟩ := acquire_cases k u
  · rw [e]
    exact ⟨hadds.emit (e := .lock u.cur) rfl, hrails⟩
  · rw [e]
    exact .inr hadds
  · rw [e]
    trivial

theorem meets_unlock_setIf : Meets True (s.setIf r v) unlock (fun _ => s.setIf r v) R W := by
  intro u hu
  by_cases h : u.holder = some u.cur
  · rw [unlock_holder h]
    exact hu.quiet rfl rfl rfl
  · rw [unlock_other h]
    trivial

theorem Sets.underLock {x : Op α} (hx : Sets s r v x) (k : Hold) : Sets s r v (underLock k x) :=
  meets_bind (meets_acquire_unset k) fun _ => meets_bind hx.attempt fun _ => meets_bind meets_unlock_setIf fun _ =>
    meets_pure fun _ => id

theorem sets_cSetUsb {p : Nat} (hp : p ≤ 3) (on : Bool) : Sets s (BitVec.ofNat 8 (0x26 + p)) (railByte on) (cSetUsb p on) :=
  meets_bind ((sets_setUsb hp on).underLock _) fun _ => meets_pure fun _ => id

/-- A set that ends in a next state without a cut has set its rail, if it wrote anything. -/
theorem Sets.next {x : Op Result} (hx : Sets s r v x) (hs : s.comp.hasRails) (h : finish x s = .next t) :
    t.wasCut ∨ s.setIf r v t := by
  have hend := hx s ⟨State.addsOnly_nil rfl, hs⟩
  obtain ⟨a, w, e, rfl⟩ | ⟨err, w, e, rfl⟩ | e | ⟨w, e, rfl⟩ := finish_next h
  · rw [e] at hend
    exact .inr hend
  · rw [e] at hend
    exact .inr hend
  · rw [e] at hend
    exact .inr hend
  · exact .inl ⟨w, rfl⟩

theorem exec_setUsb_rail {p : Nat} {on : Bool} (hp : p ≤ 3) (hs : s.comp.hasRails) (h : exec (.setUsb p on) s = .next t) :
    t.wasCut ∨ s.setIf (BitVec.ofNat 8 (0x26 + p)) (railByte on) t :=
  Sets.next (meets_bind (sets_setUsb hp on) fun _ => meets_pure fun _ => id) hs h

theorem exec_cSetUsb_rail {p : Nat} {on : Bool} (hp : p ≤ 3) (hs : s.comp.hasRails) (h : exec (.cSetUsb p on) s = .next t) :
    t.wasCut ∨ s.setIf (BitVec.ofNat 8 (0x26 + p)) (railByte on) t := by
  have hrequest : Sets s (BitVec.ofNat 8 (0x26 + p)) (railByte on) (orImmediate (.cSetUsb p on) (cSetUsb p on)) := fun u hu => by
    rw [orImmediate_none (by simp [immediateReply, portLegal_natCast hp])]
    exact sets_cSetUsb hp on u hu
  exact Sets.next (meets_bind hrequest fun _ => meets_bind (meets_modify fun _ h => h) fun _ => meets_pure fun _ => id) hs h

theorem railIs_of_written (h : s.setIf r v t) (hw : (s.newEvents t).filterMap (Event.writtenTo r) ≠ []) : t.comp.railIs r v :=
  h.resolve_right fun hnone => hw (List.filterMap_eq_nil_iff.mpr hnone.newEvents)

end Write

/-! The read. -/

/-- The event shows no successful read. -/
def Event.readsNone (e : Event) : Prop := e.readReg = none

section Read

variable {s u : State} {r v : Byte} {p : Nat} {on : Bool}

/-- What is known of a rail outlasts every suspension of the running agent. -/
theorem undisturbed_railIs (r v : Byte) : Undisturbed fun u => u.comp.railIs r v :=
  ⟨fun h => by rwa [State.elapse_comp], id⟩

theorem meets_memRead_rail (hr : isUsbReg r = true) :
    Meets True (fun u => u.comp.railIs r v) (memRead r 1)
      (fun res u => u.comp.railIs r v ∧ ∀ bs, res = .ok bs → bs = [v]) (fun _ _ => False) fun _ => False :=
  meets_bind meets_guardBus fun _ => meets_bind ((undisturbed_railIs r v).draw draws_popBus) fun _ =>
    meets_bind ((undisturbed_railIs r v).suspend _ _) fun _ => fun _ hu => answerRead_rail hr hu

/-- A read of a rail that goes on gives what the rail is. -/
theorem rdreg_rail_ok {bs : List Byte} (hr : isUsbReg r = true) (hs : s.comp.railIs r v) (h : rdreg r 1 s = .ok bs u) :
    bs = [v] := by
  have hloop := meets_retryLoop (P := fun _ u => u.comp.railIs r v) (Q := fun _ bs _ => bs = [v])
    (fun _ => (meets_memRead_rail hr).mono
      (fun res _ ⟨hrail, hbytes⟩ => by cases res with | ok bs => exact hbytes bs rfl | error f => exact hrail)
      (fun _ _ => id) fun _ => id)
    (fun _ => (undisturbed_railIs r v).sleep retryBackoffMs) retryMax []
  obtain ⟨-, -, hbs⟩ := hloop.of_ok hs h
  exact hbs

theorem addsOnly_readsNone_of_showsReads {tried : List Byte} (h : s.showsReads u [] tried) : s.addsOnly Event.readsNone u := by
  obtain ⟨hnone, -⟩ := h.newEvents
  obtain ⟨as, ⟨es, htrace, -⟩, -⟩ := h
  rw [State.newEvents_append htrace, List.filterMap_eq_nil_iff] at hnone
  exact ⟨es, htrace, fun e he => hnone e.2 (List.mem_map_of_mem he)⟩

/-- A read that ends early, which is not at `Lock()`, has read nothing. -/
theorem rdreg_error {n : Nat} {e : Exc} (h : rdreg r n s = .error e u) : e ≠ .wait ∧ s.addsOnly Event.readsNone u := by
  have hends := retryLoop_memRead_endsReads r n retryMax s
  have hrun : retryLoop (memRead r n) retryMax s = .error e u := h
  rw [hrun] at hends
  obtain ⟨hne, k, hk, hreads⟩ := hends
  obtain rfl : k = 0 := Nat.lt_one_iff.mp hk
  exact ⟨hne, addsOnly_readsNone_of_showsReads hreads⟩

/-- GET_USB of a rail gives what it is, or ends early with nothing read. -/
theorem getUsb_rail (hp : p ≤ 3) (hs : s.comp.railIs (BitVec.ofNat 8 (0x26 + p)) (railByte on)) :
    (∃ u, getUsb p s = .ok on u) ∨ ∃ e u, getUsb p s = .error e u ∧ e ≠ .wait ∧ s.addsOnly Event.readsNone u := by
  unfold getUsb
  rw [if_pos (portLegal_natCast hp), usbReg_natCast]
  cases h : rdreg (BitVec.ofNat 8 (0x26 + p)) 1 s with
  | ok bs u =>
    rw [rdreg_rail_ok (isUsbReg_port hp) hs h] at h
    have hbyte : rdu8 (BitVec.ofNat 8 (0x26 + p)) s = .ok (railByte on) u := Op.bind_ok h
    refine .inl ⟨u, ?_⟩
    rw [Op.bind_ok hbyte]
    cases on <;> rfl
  | error e u => exact .inr ⟨e, u, Op.bind_error (Op.bind_error h), rdreg_error h⟩

theorem exec_getUsb_rail (hp : p ≤ 3) (hs : s.comp.railIs (BitVec.ofNat 8 (0x26 + p)) (railByte on))
    (h : exec (.getUsb p) s = .next u) :
    u.wasCut ∨ u.result = some (.value (.bool on)) ∨ s.addsOnly Event.readsNone u := by
  obtain ⟨w, hw⟩ | ⟨e, w, hw, hne, hnone⟩ := getUsb_rail hp hs
  · obtain rfl := Host.Outcome.next.inj (h.symm.trans (giving_ok hw))
    exact .inr (.inl rfl)
  · cases e with
    | raise e =>
      obtain rfl := Host.Outcome.next.inj (h.symm.trans (giving_raise hw))
      exact .inr (.inr hnone)
    | wait => exact absurd rfl hne
    | cut | stop => exact .inl (wasCut_of_ended (y := giving .bool (getUsb p)) (Op.bind_error hw) nofun nofun h)

theorem exec_cGetUsb_of_underLock {res : Except Err Bool} (hp : p ≤ 3) (h : underLock (.getUsb p) (getUsb p) s = .ok res u) :
    exec (.cGetUsb p) s = .next (u.answered (replyOf .bool res)) :=
  replying_ok ((orImmediate_none (by simp [immediateReply, portLegal_natCast hp])).trans (Op.bind_ok h))

theorem cGetUsb_of_error {e : Exc} (hp : p ≤ 3) (hl : s.canLock) (h : getUsb p s.takeLock = .error e u)
    (he : ∀ r, e ≠ .raise r) : replying (orImmediate (.cGetUsb p) (cGetUsb p)) s = .error e u :=
  Op.bind_error ((orImmediate_none (by simp [immediateReply, portLegal_natCast hp])).trans
    (Op.bind_error (underLock_of_error hl h he)))

/-- Taking the lock and releasing it reads nothing. -/
theorem addsOnly_hold {w : State} (h : s.takeLock.addsOnly Event.readsNone w) (r : Reply) :
    s.addsOnly Event.readsNone (w.dropLock.answered r) :=
  State.addsOnly.trans (State.addsOnly_event (e := .lock s.cur) rfl rfl)
    (h.trans (State.addsOnly_event (e := .unlock w.cur) rfl rfl))

theorem exec_cGetUsb_rail (hp : p ≤ 3) (hs : s.comp.railIs (BitVec.ofNat 8 (0x26 + p)) (railByte on))
    (h : exec (.cGetUsb p) s = .next u) :
    u.wasCut ∨ u.result = some (.reply (.value (.bool on))) ∨ s.addsOnly Event.readsNone u := by
  cases hh : s.holder with
  | none =>
    obtain ⟨w, hw⟩ | ⟨e, w, hw, hne, hnone⟩ := getUsb_rail (s := s.takeLock) hp hs
    · have hends := exec_cGetUsb_of_underLock hp (underLock_of_ok hh (keepsHold_getUsb p) hw)
      obtain rfl := Host.Outcome.next.inj (h.symm.trans hends)
      exact .inr (.inl rfl)
    · cases e with
      | raise e =>
        have hends := exec_cGetUsb_of_underLock hp (underLock_of_raise hh (keepsHold_getUsb p) hw)
        obtain rfl := Host.Outcome.next.inj (h.symm.trans hends)
        exact .inr (.inr (addsOnly_hold hnone _))
      | wait => exact absurd rfl hne
      | cut | stop => exact .inl (wasCut_of_ended (cGetUsb_of_error hp hh hw nofun) nofun nofun h)
  | some a =>
    by_cases ha : a = s.cur
    · cases h.symm.trans (exec_reentrant (on := on) hp (by simp) (ha ▸ hh))
    · obtain rfl := Host.Outcome.next.inj (h.symm.trans (exec_cGetUsb_held hh ha (portLegal_natCast hp)))
      exact .inr (.inr (State.addsOnly_nil rfl))

/-- A get that reads a register comes to its value, unless host power is cut. -/
theorem result_of_read {C : Prop} (h : u.wasCut ∨ C ∨ s.addsOnly Event.readsNone u)
    (hr : (s.newEvents u).filterMap Event.readReg ≠ []) (hcut : ¬u.wasCut) : C :=
  (h.resolve_left hcut).resolve_right fun hnone => hr (List.filterMap_eq_nil_iff.mpr hnone.newEvents)

end Read

/-! A host power cut in the write leaves no bus to read from. -/

section Cut

variable {s : State} {p : Nat}

theorem getUsb_closed (hp : p ≤ 3) (h : s.busOpen = false) : getUsb p s = .error (.stop .busNotOpen) s := by
  have hguard : guardBus s = .error (.stop .busNotOpen) s := by
    obtain ⟨ho, -⟩ | ⟨ho, -⟩ | ⟨-, e⟩ := guardBus_cases s
    · simp [h] at ho
    · simp [h] at ho
    · exact e
  unfold getUsb
  rw [if_pos (portLegal_natCast hp)]
  exact Op.bind_error (Op.bind_error (retryLoop_error (Op.bind_error hguard) _))

/-- A cut closes the bus and frees the lock (60_exceptions R639). -/
theorem State.wasCut.closed (h : s.wasCut) : s.busOpen = false ∧ s.canLock := by
  obtain ⟨u, rfl⟩ := h
  exact ⟨rfl, rfl⟩

theorem exec_getUsb_cut (hp : p ≤ 3) (h : s.wasCut) : exec (.getUsb p) s = .fault .busNotOpen :=
  giving_stop (getUsb_closed hp h.closed.1)

theorem exec_cGetUsb_cut (hp : p ≤ 3) (h : s.wasCut) : exec (.cGetUsb p) s = .fault .busNotOpen :=
  finish_stop (cGetUsb_of_error hp h.closed.2 (getUsb_closed (s := s.takeLock) hp h.closed.1) nofun)

end Cut

/-- Settles O19: a set that wrote has set its rail, and a get that reads gives what the rail is; a cut of host power in the
set would make the get a fault of the model. -/
theorem usbRoundTrip : Obligations.UsbRoundTrip := by
  unfold Obligations.UsbRoundTrip
  intro s t u p on hp hs
  refine ⟨fun ht hw hu hr hcut => ?request, fun ht hw hu hr hcut => ?named⟩
  case request =>
    obtain hlost | hset := exec_cSetUsb_rail hp hs ht
    · cases hu.symm.trans (exec_cGetUsb_cut hp hlost)
    · exact result_of_read (exec_cGetUsb_rail hp (railIs_of_written hset hw) hu) hr hcut
  case named =>
    obtain hlost | hset := exec_setUsb_rail hp hs ht
    · cases hu.symm.trans (exec_getUsb_cut hp hlost)
    · exact result_of_read (exec_getUsb_rail hp (railIs_of_written hset hw) hu) hr hcut

end Sys2Proof.Machine
end

section
/-! PROOFS. The block deals with the companion through its attempts, and nothing else it does touches what is known of it: a
predicate on the companion and the clock that these dealings keep is kept by every step. -/

namespace Sys2Proof.Machine

/-- `P` sees only the companion and the clock, and is kept as time passes and by each of the block's dealings with the companion:
an attempt that is answered, a transaction of an unstated trace, a write attempt lost at a cut of host power, and the cut itself
(60_exceptions R630 to R632, R639). -/
structure OfCompanion (P : State → Prop) : Prop where
  later : ∀ {s t : State}, P s → t.comp = s.comp → s.now ≤ t.now → P t
  read : ∀ {s : State} (r : Byte) (n : Nat) (resp : BusResp),
    P s → P { s with comp := (s.comp.answerRead s.par.wdAnyTraffic s.now r n resp).2 }
  write : ∀ {s : State} (r : Byte) (data : List Byte) (resp : BusResp),
    P s → P { s with comp := (s.comp.answerWrite s.par.wdAnyTraffic s.now r data resp).2 }
  traffic : ∀ {s : State}, P s → P { s with comp := { s.comp with wdog := s.comp.wdog.touch s.par.wdAnyTraffic s.now } }
  lost : ∀ {s : State} (r : Byte) (data : List Byte), P s → P (s.lostWrite r data)
  cut : ∀ {s : State}, P s → P s.powerCut

namespace OfCompanion

variable {α : Type} {P : State → Prop} (h : OfCompanion P)
include h

/-! What does not deal with the companion. -/

theorem modify {f : State → State} (hf : ∀ s, (f s).comp = s.comp ∧ (f s).now = s.now) : Keeps P (modify f : Op Unit) :=
  fun s hs => h.later hs (hf s).1 (hf s).2.ge

theorem ran {s u : State} (hs : P s) (hr : s.ran u) : P u :=
  h.later hs (by rw [hr.around]) hr.now

theorem emit (e : Event) : Keeps P (emit e) := h.modify fun _ => ⟨rfl, rfl⟩

theorem setSup (p : SupPoint) : Keeps P (setSup p) := h.modify fun _ => ⟨rfl, rfl⟩

theorem setDfu (p : DfuPoint) : Keeps P (setDfu p) := h.modify fun _ => ⟨rfl, rfl⟩

theorem draw {x : Op α} (hx : Draws x) : Keeps P x := hx.keeps fun hs => h.later hs rfl le_rfl

theorem suspend (ms : Nat) (p : Susp) : Keeps P (suspend ms p) := by
  intro s hs
  obtain ⟨till, hle, -, e⟩ | e := suspend_cases ms p s
  · rw [leaves_error e]
    exact h.ran hs (s.ran_elapse till p.acts hle)
  · rw [leaves_ok e]
    exact h.ran hs (s.ran_elapse _ p.acts (Nat.le_add_right _ _))

theorem sleep (ms : Nat) : Keeps P (sleep ms) :=
  keeps_bind (h.emit _) fun _ => keeps_bind (h.draw draws_popSleep) fun _ => h.suspend _ _

theorem acquire (k : Hold) : Keeps P (acquire k) := by
  intro s hs
  obtain ⟨-, e⟩ | ⟨a, -, -, e⟩ | ⟨-, e⟩ := acquire_cases k s
  · rw [leaves_ok e]
    exact h.later hs rfl le_rfl
  · rw [leaves_error e]
    exact h.later hs rfl le_rfl
  · rwa [leaves_error e]

theorem unlock : Keeps P unlock := by
  intro s hs
  by_cases hh : s.holder = some s.cur
  · rw [leaves_ok (unlock_holder hh)]
    exact h.later hs rfl le_rfl
  · rwa [leaves_error (unlock_other hh)]

theorem underLock (k : Hold) {x : Op α} (hx : Keeps P x) : Keeps P (underLock k x) :=
  keeps_bind (h.acquire k) fun _ => keeps_bind (keeps_attempt hx) fun _ => keeps_bind h.unlock fun _ => keeps_pure _

/-! Transactions. -/

theorem memRead (r : Byte) (n : Nat) : Keeps P (memRead r n) :=
  keeps_bind keeps_guardBus fun _ => keeps_bind (h.draw draws_popBus) fun d => keeps_bind (h.suspend _ _) fun _ =>
    keeps_get_bind fun _ hs => h.later (h.read r n d.resp hs) rfl le_rfl

theorem onCut_lostWrite {x : Op α} (hx : Keeps P x) (r : Byte) (data : List Byte) :
    Keeps P (onCut (State.lostWrite · r data) x) := by
  intro s hs
  have hleft := hx s hs
  cases hrun : x s with
  | ok a t =>
    rw [leaves_ok hrun] at hleft
    rwa [leaves_ok (onCut_ok hrun)]
  | error e t =>
    rw [leaves_error hrun] at hleft
    cases e with
    | cut =>
      rw [leaves_error (onCut_cut hrun)]
      exact h.lost r data hleft
    | raise | wait | stop => simpa [leaves, onCut, hrun] using hleft

theorem memWrite (r : Byte) (data : List Byte) : Keeps P (memWrite r data) :=
  keeps_bind keeps_guardBus fun _ => keeps_bind (h.draw draws_popBus) fun d =>
    keeps_bind (h.onCut_lostWrite (h.suspend _ _) r data) fun _ =>
      keeps_get_bind fun _ hs => h.later (h.write r data d.resp hs) rfl le_rfl

theorem retryLoop {t : Op (Except Failure α)} (ht : Keeps P t) (k : Nat) : Keeps P (retryLoop t k) := by
  induction k with
  | zero =>
    refine keeps_bind ht fun r => ?_
    split
    · exact keeps_pure _
    · exact keeps_ite (keeps_raise _) (keeps_raise _)
  | succ k ih =>
    refine keeps_bind ht fun r => ?_
    split
    · exact keeps_pure _
    · exact keeps_ite (keeps_raise _) (keeps_bind (h.sleep _) fun _ => ih)

theorem rdreg (r : Byte) (n : Nat) : Keeps P (rdreg r n) := h.retryLoop (h.memRead r n) _

theorem wrreg (r : Byte) (data : List Byte) : Keeps P (wrreg r data) := h.retryLoop (h.memWrite r data) _

/-- A read decoded from the bytes of a raw one. -/
theorem decoded (r : Byte) (n : Nat) (f : List Byte → α) : Keeps P (Machine.rdreg r n >>= fun d => pure (f d)) :=
  keeps_bind (h.rdreg r n) fun _ => keeps_pure _

theorem wruN (k : Nat) (r : Byte) (v : Nat) : Keeps P (wruN k r v) := keeps_ite (h.wrreg _ _) (keeps_stop _)

/-- The writes to the watchdog's register (41_register_ops R258 to R260). -/
theorem watchdog (v : Nat) : Keeps P (wru16 0x10 v) := h.wruN 2 0x10 v

/-! Reads in both dialects. -/

theorem runDialect1 (l : List Dialect1Txn) : Keeps P (runDialect1 l) := by
  induction l with
  | nil => exact keeps_pure _
  | cons x rest ih =>
    cases x with
    | read r n => exact keeps_bind (h.rdreg _ _) fun _ => keeps_bind ih fun _ => keeps_pure _
    | write r data => exact keeps_bind (h.wrreg _ _) fun _ => ih

theorem traffics : Keeps P Machine.traffic := fun _ hs => h.traffic hs

theorem unstatedTrace (l : List Susp) : Keeps P (unstatedTrace l) := by
  induction l with
  | nil => exact keeps_pure _
  | cons p rest ih => exact keeps_bind (h.suspend _ _) fun _ => keeps_bind h.traffics fun _ => ih

theorem unfixedDialect1 (r : Byte) : Keeps P (unfixedDialect1 r) :=
  keeps_bind keeps_guardBus fun _ => keeps_bind (h.draw draws_popDialect1) fun _ => keeps_bind (h.unstatedTrace _) fun _ =>
    keeps_bind (h.suspend _ _) fun _ => keeps_bind (h.emit _) fun _ => by
      split
      · exact keeps_bind h.traffics fun _ => keeps_pure _
      · exact keeps_raise _

theorem dialect1U16 (r : Byte) : Keeps P (dialect1U16 r) :=
  keeps_bind keeps_get fun _ => by
    split
    · exact h.unfixedDialect1 r
    · split
      · refine keeps_bind (h.runDialect1 _) fun _ => ?_
        split
        · exact keeps_pure _
        · exact h.unfixedDialect1 r
      · exact h.unfixedDialect1 r

theorem rdu16 (r : Byte) : Keeps P (rdu16 r) :=
  keeps_bind keeps_get fun _ => by
    split
    · exact h.decoded r 2 _
    · exact h.dialect1U16 r
    · exact keeps_stop _

/-! Named registers. -/

theorem rdPstate : Keeps P rdPstate := keeps_bind (h.decoded _ _ _) fun _ => keeps_pure _

theorem readMeasurements : Keeps P readMeasurements :=
  keeps_bind (h.rdu16 _) fun _ => keeps_bind (h.rdu16 _) fun _ => keeps_bind (h.rdu16 _) fun _ => keeps_bind (h.rdu16 _) fun _ =>
    keeps_bind (h.rdu16 _) fun _ => keeps_bind h.rdPstate fun _ => keeps_pure _

theorem getUsb (p : Int) : Keeps P (getUsb p) :=
  keeps_ite (keeps_bind (h.decoded _ _ _) fun _ => keeps_ite (keeps_pure _) (keeps_ite (keeps_pure _) (keeps_raise _)))
    (keeps_raise _)

theorem setUsb (p : Int) (on : Bool) : Keeps P (setUsb p on) := keeps_ite (h.wruN 1 _ _) (keeps_raise _)

theorem requestShutdown : Keeps P requestShutdown := h.wruN 1 0x30 0x01

theorem requestStandby (seconds : Nat) : Keeps P (requestStandby seconds) :=
  keeps_bind keeps_get fun _ => keeps_ite (h.wrreg _ _) (keeps_stop _)

/-! The DFU engine. -/

omit h in
theorem frame (i : Nat) (d : List Byte) : Keeps P (frame i d) := keeps_ite (keeps_pure _) (keeps_stop _)

theorem dfuStart (n : Nat) : Keeps P (dfuStart n) := keeps_ite (h.wruN 4 _ _) (keeps_raise _)

theorem dfuStatus : Keeps P dfuStatus :=
  keeps_bind (h.decoded _ _ _) fun _ => keeps_bind (h.modify fun _ => ⟨rfl, rfl⟩) fun _ => keeps_pure _

theorem dfuBlock (i : Nat) (d : List Byte) : Keeps P (dfuBlock i d) := keeps_bind (frame i d) fun _ => h.wrreg _ _

theorem prewaitLoop (i start k : Nat) : Keeps P (prewaitLoop i start k) := by
  induction k with
  | zero => exact keeps_raise _
  | succ k ih =>
    refine keeps_bind h.dfuStatus fun st => ?_
    split
    · exact keeps_pure _
    · exact keeps_raise _
    · exact keeps_bind keeps_get fun _ => keeps_ite (keeps_raise _) (keeps_ite (keeps_raise _)
        (keeps_bind (h.sleep _) fun _ => ih))

theorem prewait (i : Nat) : Keeps P (prewait i) :=
  keeps_bind (h.setDfu _) fun _ => keeps_bind keeps_get fun _ => keeps_ite (keeps_raise _)
    (keeps_bind (h.sleep _) fun _ => keeps_bind keeps_clock fun _ => h.prewaitLoop _ _ _)

theorem dfuSend (i : Nat) : Keeps P (dfuSend i) :=
  keeps_bind (h.setDfu _) fun _ => keeps_bind keeps_get fun _ => h.dfuBlock _ _

theorem sendBlocks (total k i : Nat) : Keeps P (sendBlocks total k i) := by
  induction k generalizing i with
  | zero => exact keeps_pure _
  | succ k ih =>
    exact keeps_bind (h.prewait _) fun _ => keeps_bind (h.dfuSend _) fun _ =>
      keeps_bind (keeps_bind (h.setDfu _) fun _ => h.modify fun _ => ⟨rfl, rfl⟩) fun _ => ih _

theorem drainLoop (total start k : Nat) : Keeps P (drainLoop total start k) := by
  induction k with
  | zero => exact keeps_raise _
  | succ k ih =>
    refine keeps_bind h.dfuStatus fun st => ?_
    split
    · exact keeps_raise _
    · exact keeps_bind (h.sleep _) fun _ => keeps_bind (h.rdu16 _) fun _ => keeps_ite (keeps_pure _)
        (keeps_bind keeps_get fun _ => keeps_ite (keeps_ite (keeps_raise _) (keeps_raise _))
          (keeps_bind (h.sleep _) fun _ => ih))

theorem drain (total : Nat) : Keeps P (drain total) :=
  keeps_bind (h.setDfu _) fun _ => keeps_bind keeps_clock fun _ => h.drainLoop _ _ _

theorem commitSeq : Keeps P commitSeq :=
  keeps_bind (h.setDfu _) fun _ => keeps_bind (h.sleep _) fun _ => h.wruN 1 0x44 0x00

theorem abortSeq : Keeps P abortSeq :=
  keeps_bind (h.setDfu _) fun _ => keeps_bind (h.sleep _) fun _ => 
    keeps_bind (keeps_attempt (h.wruN 1 0x45 0x00)) fun _ => keeps_pure _

theorem sessionBody (n : Nat) : Keeps P (sessionBody n) :=
  keeps_bind (h.setDfu _) fun _ => keeps_bind (h.dfuStart _) fun _ => keeps_bind (h.sendBlocks _ _ _) fun _ =>
    keeps_bind (h.drain _) fun _ => h.commitSeq

theorem endSession : Keeps P endSession :=
  keeps_bind (h.modify fun _ => ⟨rfl, rfl⟩) fun _ => keeps_bind h.unlock fun _ => h.setDfu _

theorem uploadFrom (k : Hold) (image : List Byte) : Keeps P (uploadFrom k image) :=
  keeps_bind (h.acquire k) fun _ => keeps_bind (h.modify fun _ => ⟨rfl, rfl⟩) fun _ =>
    keeps_bind (keeps_attempt (h.sessionBody _)) fun r => by
      split
      · exact h.endSession
      · exact keeps_bind h.abortSeq fun _ => keeps_bind h.endSession fun _ => keeps_raise _

theorem dfuUpload (k : Hold) (image : List Byte) : Keeps P (dfuUpload k image) :=
  keeps_bind (h.setDfu _) fun _ => keeps_ite (h.uploadFrom _ _) (keeps_raise _)

/-! The control port's requests. -/

theorem replying {x : Op Reply} (hx : Keeps P x) : Keeps P (replying x) :=
  keeps_bind hx fun _ => keeps_bind (h.modify fun _ => ⟨rfl, rfl⟩) fun _ => keeps_pure _

theorem orImmediate (i : Instr) {x : Op Reply} (hx : Keeps P x) : Keeps P (orImmediate i x) :=
  keeps_get_bind fun u hu => by
    split
    · exact h.later hu rfl le_rfl
    · exact hx u hu

/-- A request whose reply is what became of one operation under the lock. -/
theorem replied (k : Hold) {x : Op α} (hx : Keeps P x) (f : Except Err α → Reply) :
    Keeps P (Machine.underLock k x >>= fun r => pure (f r)) :=
  keeps_bind (h.underLock k hx) fun _ => keeps_pure _

theorem cSnapshot : Keeps P cSnapshot :=
  keeps_bind (h.underLock _ h.readMeasurements) fun r => by
    split
    · exact keeps_bind (h.modify fun _ => ⟨rfl, rfl⟩) fun _ => keeps_pure _
    · exact keeps_pure _

theorem cShutdown : Keeps P cShutdown :=
  keeps_bind (h.underLock _ h.requestShutdown) fun _ => keeps_bind (h.modify fun _ => ⟨rfl, rfl⟩) fun _ => keeps_pure _

theorem standbyWrite (seconds : Nat) : Keeps P (standbyWrite seconds) := h.replied _ (h.requestStandby seconds) _

theorem cStandby (arg : StandbyArg) : Keeps P (cStandby arg) := by
  cases arg with
  | delay d => exact h.standbyWrite _
  | datetime w => exact keeps_bind (h.draw draws_popWall) fun _ => h.standbyWrite _
  | other given => exact keeps_pure _

omit h in
theorem cUpload {x : Op Unit} (hx : Keeps P x) : Keeps P (cUpload x) :=
  keeps_bind (keeps_attempt hx) fun _ => keeps_pure _

/-! The supervisor. -/

theorem exitFrom (code : Fin 3) : Keeps P (exitFrom code) :=
  keeps_bind (h.acquire _) fun _ => keeps_bind (keeps_attempt (h.watchdog 0)) fun _ =>
    keeps_bind h.unlock fun _ => h.modify fun _ => ⟨rfl, rfl⟩

theorem exitSeq (code : Fin 3) : Keeps P (exitSeq code) := keeps_bind (h.setSup _) fun _ => h.exitFrom code

theorem startStep (now : Nat) : Keeps P (startStep now) :=
  keeps_bind (keeps_attemptTransport (h.watchdog wdTimeoutCs)) fun r => by
    split
    · exact h.modify fun _ => ⟨rfl, rfl⟩
    · exact keeps_endTickIfFatal _

theorem takeSampleOp : Keeps P takeSampleOp :=
  keeps_bind (keeps_attemptTransport h.readMeasurements) fun r => by
    split
    · exact keeps_bind (h.modify fun _ => ⟨rfl, rfl⟩) fun _ => keeps_pure _
    · exact keeps_bind (keeps_endTickIfFatal _) fun _ => keeps_pure _

theorem feedIfDue (now : Nat) : Keeps P (feedIfDue now) :=
  keeps_bind keeps_get fun _ => keeps_ite
    (keeps_bind (keeps_attemptTransport (h.watchdog wdTimeoutCs)) fun r => by
      split
      · exact h.modify fun _ => ⟨rfl, rfl⟩
      · exact keeps_endTickIfFatal _) (keeps_pure _)

theorem launch : Keeps P shutdownSeq.launch :=
  keeps_bind keeps_get fun _ => keeps_ite (h.modify fun _ => ⟨rfl, rfl⟩)
    (keeps_bind (h.draw draws_popLaunch) fun _ => keeps_bind (h.emit _) fun _ =>
      keeps_ite (h.modify fun _ => ⟨rfl, rfl⟩) (h.modify fun _ => ⟨rfl, rfl⟩))

theorem shutdownSeq : Keeps P shutdownSeq :=
  keeps_bind keeps_get fun _ => keeps_ite h.launch
    (keeps_bind (keeps_attempt h.requestShutdown) fun _ => keeps_bind (h.modify fun _ => ⟨rfl, rfl⟩) fun _ => h.launch)

theorem enterShutdown (now : Nat) : Keeps P (enterShutdown now) :=
  keeps_bind (h.modify fun _ => ⟨rfl, rfl⟩) fun _ =>
    keeps_bind (keeps_bind (keeps_attemptTransport (h.watchdog wdTimeoutCs)) fun r => by
      split
      · exact h.modify fun _ => ⟨rfl, rfl⟩
      · exact keeps_pure _) fun _ => h.shutdownSeq

theorem actOnIntent (now : Nat) : Keeps P (actOnIntent now) :=
  keeps_bind (h.modify fun _ => ⟨rfl, rfl⟩) fun _ => h.enterShutdown now

theorem okStep (vlim : Rat) (r : Sample) (now : Nat) : Keeps P (okStep vlim r now) :=
  keeps_bind keeps_get fun _ => by
    split
    · exact keeps_ite (h.modify fun _ => ⟨rfl, rfl⟩) (keeps_pure _)
    · exact keeps_pure _

theorem blackoutStep (vlim tlim : Rat) (r : Sample) (now : Nat) : Keeps P (blackoutStep vlim tlim r now) :=
  keeps_bind keeps_get fun _ => by
    split
    · refine keeps_ite (h.modify fun _ => ⟨rfl, rfl⟩) ?_
      split
      · exact keeps_stop _
      · exact keeps_ite (h.enterShutdown now) (keeps_pure _)
    · exact keeps_pure _

theorem fsmStepAt (vlim tlim : Rat) (r : Sample) (now : Nat) : Keeps P (fsmStepAt vlim tlim r now) :=
  keeps_bind keeps_get fun _ => by
    split
    · exact keeps_pure _
    · exact keeps_bind (h.modify fun _ => ⟨rfl, rfl⟩) fun _ => h.shutdownSeq
    · exact keeps_ite (h.actOnIntent now) (keeps_pure _)
    · exact keeps_ite (h.actOnIntent now) (h.okStep vlim r now)
    · exact keeps_ite (h.actOnIntent now) (h.blackoutStep vlim tlim r now)

theorem tickBody (vlim tlim : Rat) : Keeps P (tickBody vlim tlim) :=
  keeps_bind keeps_clock fun now => keeps_bind keeps_get fun _ => keeps_ite (h.startStep now)
    (keeps_bind (h.setSup _) fun _ => keeps_bind h.takeSampleOp fun _ => keeps_bind (h.setSup _) fun _ =>
      keeps_bind (h.feedIfDue now) fun _ => keeps_bind (h.setSup _) fun _ => h.fsmStepAt _ _ _ _)

theorem tickFrom (vlim tlim : Rat) : Keeps P (tickFrom vlim tlim) :=
  keeps_bind (h.acquire _) fun _ => keeps_bind (keeps_attempt (h.tickBody vlim tlim)) fun r =>
    keeps_bind h.unlock fun _ => by
      split
      · exact h.setSup _
      · exact h.exitSeq 1

theorem tick : Keeps P tick :=
  keeps_bind keeps_get fun _ => keeps_bind (h.modify fun _ => ⟨rfl, rfl⟩) fun _ => keeps_ite (h.exitFrom 0)
    (keeps_ite (keeps_pure _) (h.tickFrom _ _))

/-! STARTUP. -/

theorem firstArm : Keeps P firstArm := by
  have starts : Keeps P (do Machine.unlock; startAgents) := keeps_bind h.unlock fun _ => h.modify fun _ => ⟨rfl, rfl⟩
  refine keeps_bind (keeps_attemptTransport (h.watchdog wdTimeoutCs)) fun r => ?_
  split
  · exact keeps_bind (h.modify fun _ => ⟨rfl, rfl⟩) fun _ => starts
  · exact keeps_ite (keeps_bind h.unlock fun _ => h.exitSeq 1) (keeps_bind (h.modify fun _ => ⟨rfl, rfl⟩) fun _ => starts)

theorem startOnBus : Keeps P startOnBus :=
  keeps_bind (h.acquire _) fun _ => keeps_bind (keeps_attemptTransport (h.decoded _ _ _)) fun r => by
    split
    · exact keeps_bind h.unlock fun _ => keeps_bind (h.modify fun _ => ⟨rfl, rfl⟩) fun _ => h.exitSeq 1
    · exact keeps_bind (h.modify fun _ => ⟨rfl, rfl⟩) fun _ => h.firstArm

theorem exitBeforeBus (code : Fin 3) (e : Err) : Keeps P (exitBeforeBus code e) := h.modify fun _ => ⟨rfl, rfl⟩

theorem openBus (c : Cfg) : Keeps P (openBus c) :=
  keeps_bind (h.modify fun _ => ⟨rfl, rfl⟩) fun _ => keeps_bind (h.draw draws_popOpen) fun o =>
    keeps_bind (h.suspend _ _) fun _ => keeps_bind (h.emit _) fun _ => by
      split
      · exact h.exitBeforeBus _ _
      · exact keeps_bind (h.modify fun _ => ⟨rfl, rfl⟩) fun _ => h.startOnBus

omit h in
theorem guardReset : Keeps P guardReset := keeps_bind keeps_get fun _ => keeps_ite (keeps_stop _) (keeps_pure _)

theorem startup : Keeps P startup :=
  keeps_bind guardReset fun _ => keeps_bind (h.draw draws_popBoot) fun _ => keeps_bind keeps_get fun _ => by
    split
    · exact h.exitBeforeBus _ _
    · exact h.openBus _

/-! The meanings. -/

theorem of_finish {x : Op Result} {s t : State} (hx : Keeps P x) (hs : P s) (e : finish x s = .next t) : P t := by
  have hleft := hx s hs
  obtain ⟨r, u, hrun, rfl⟩ | ⟨r, u, hrun, rfl⟩ | hrun | ⟨u, hrun, rfl⟩ := finish_next e
  · rw [leaves_ok hrun] at hleft
    exact h.later hleft rfl le_rfl
  · rw [leaves_error hrun] at hleft
    exact h.later hleft rfl le_rfl
  · rwa [leaves_error hrun] at hleft
  · rw [leaves_error hrun] at hleft
    exact h.cut hleft

theorem exec {s t : State} (i : Instr) (hs : P s) (e : exec i s = .next t) : P t := by
  have gives {α : Type} {f : α → Value} {x : Op α} (hx : Keeps P x) (e : finish (giving f x) s = .next t) : P t :=
    h.of_finish (keeps_giving hx) hs e
  have does {x : Op Unit} (hx : Keeps P x) (e : finish (doing x) s = .next t) : P t := h.of_finish (keeps_doing hx) hs e
  have replies {x : Op Reply} (hx : Keeps P x) (e : finish (Machine.replying x) s = .next t) : P t :=
    h.of_finish (h.replying hx) hs e
  cases i
  case rdreg | rdDevid => exact gives (h.rdreg _ _) e
  case rdHwver | rdFwver | rdu8 | rdu32 | rdword => exact gives (h.decoded _ _ _) e
  case rdWdt | rdPon | rdVin | rdVscap | rdIin | rdTmcu | rdTpcb | rdDfuBw | rdu16 => exact gives (h.rdu16 _) e
  case rdPstate => exact gives h.rdPstate e
  case rdUsb0 | rdUsb1 | rdUsb2 | rdUsb3 | getUsb => exact gives (h.getUsb _) e
  case readMeasurements => exact gives h.readMeasurements e
  case rdDfuStatus => exact gives h.dfuStatus e
  case frame => exact gives (frame _ _) e
  case crc32 | partition => exact gives (keeps_pure _) e
  case wrreg => exact does (h.wrreg _ _) e
  case wdArm | wdFeed => exact does (h.watchdog wdTimeoutCs) e
  case wdDisable => exact does (h.watchdog 0) e
  case wrPon | wru16 => exact does (h.wruN 2 _ _) e
  case wru8 => exact does (h.wruN 1 _ _) e
  case wru32 => exact does (h.wruN 4 _ _) e
  case wrUsb0 | wrUsb1 | wrUsb2 | wrUsb3 | setUsb => exact does (h.setUsb _ _) e
  case wrShutdown | requestShutdown => exact does h.requestShutdown e
  case wrStandby | requestStandby => exact does (h.requestStandby _) e
  case wrDfuStart => exact does (h.dfuStart _) e
  case wrDfuBlock => exact does (h.dfuBlock _ _) e
  case wrDfuCommit => exact does (h.wruN 1 0x44 0x00) e
  case wrDfuAbort => exact does (h.wruN 1 0x45 0x00) e
  case tick => exact does h.tick e
  case fsmStep => exact does (h.fsmStepAt _ _ _ _) e
  case shutdownSeq => exact does h.shutdownSeq e
  case exitSeq => exact does (h.exitSeq _) e
  case startup => exact does h.startup e
  case dfuUpload => exact does (h.dfuUpload _ _) e
  case dfuPrewait => exact does (h.prewait _) e
  case dfuSend => exact does (h.dfuSend _) e
  case dfuDrain => exact does (h.drain _) e
  case dfuCommitSeq => exact does h.commitSeq e
  case dfuAbortSeq => exact does h.abortSeq e
  case cSnapshot => exact replies h.cSnapshot e
  case cGetConfig | cSetConfig => exact replies (h.orImmediate _ (keeps_pure _)) e
  case cGetUsb => exact replies (h.orImmediate _ (h.replied _ (h.getUsb _) _)) e
  case cSetUsb => exact replies (h.orImmediate _ (h.replied _ (h.setUsb _ _) _)) e
  case cShutdown => exact replies h.cShutdown e
  case cStandby => exact replies (h.orImmediate _ (h.cStandby _)) e
  case cUpload => exact replies (cUpload (h.dfuUpload _ _)) e

/-! The operation port. -/

theorem issue {s t : State} (i : Instr) (hs : P s) (e : issue i s = .next t) : P t := by
  unfold Machine.issue execHeld at e
  split at e
  · split at e
    · split at e
      · next u hu =>
        cases e
        have hend : P u := h.exec i (h.later (t := s.takeLock) hs rfl le_rfl) hu
        unfold State.releasePort
        split
        · exact h.later hend rfl le_rfl
        · exact hend
      · cases e
      · cases e
    · exact h.exec i hs e
  · exact h.exec i hs e

/-! The block's own runs. -/

theorem resume (k : Hold) : Keeps P (resume k) := by
  cases k with
  | startup => exact keeps_doing h.startOnBus
  | tick v l => exact keeps_doing (h.tickFrom v l)
  | exit code => exact keeps_doing (h.exitFrom code)
  | upload image => exact keeps_doing (h.uploadFrom _ _)
  | snapshot => exact h.replying h.cSnapshot
  | getUsb p => exact h.replying (h.replied _ (h.getUsb p) _)
  | setUsb p on => exact h.replying (h.replied _ (h.setUsb p on) _)
  | shutdown => exact h.replying h.cShutdown
  | standby seconds => exact h.replying (h.standbyWrite seconds)
  | uploadRequest image => exact h.replying (cUpload (h.uploadFrom _ _))

theorem runRequest {s t : State} (k : Nat) (hs : P s) (e : runRequest k s = .next t) : P t := by
  have hrun : P { s.markRunning k with cur := .ctrl k } := h.later hs rfl le_rfl
  unfold Machine.runRequest at e
  split at e
  · cases e
    exact hs
  · split at e
    · exact h.exec _ hrun e
    · exact h.of_finish (h.replying (keeps_pure _)) hrun e

theorem runIdle {s t : State} (hs : P s) (e : runIdle s = .next t) : P t := by
  have hidle : Keeps P idle := keeps_bind (h.draw draws_popIdle) fun _ => keeps_bind keeps_get fun _ => h.suspend _ _
  have hleft := hidle s hs
  unfold Machine.runIdle at e
  split at e
  case h_1 hrun | h_4 hrun | h_5 hrun =>
    cases e
    rwa [leaves, hrun] at hleft
  case h_2 hrun =>
    cases e
    rw [leaves, hrun] at hleft
    exact h.cut hleft
  case h_3 => cases e

theorem runTask {s t : State} (k : Task) (hs : P s) (e : runTask k s = .next t) : P t := by
  cases k with
  | tick => exact h.exec .tick (h.later (t := { s with cur := .supervisor }) hs rfl le_rfl) e
  | request k => exact h.runRequest k hs e
  | resume w =>
    exact h.of_finish (h.resume w.hold) (h.later (t := { s with cur := w.agent, waiters := s.waiters.erase w }) hs rfl le_rfl) e
  | send a =>
    cases e
    exact h.ran hs (s.ran_send a)
  | pass => exact h.runIdle hs e

theorem schedule {s t : State} (hs : P s) (e : schedule s = .next t) : P t := by
  have harm : P s.arm := h.ran hs s.ran_arm
  unfold Machine.schedule at e
  split at e
  · exact h.runIdle harm e
  · obtain ⟨n, p, hpop⟩ := draws_popAgent s.arm
    rw [hpop] at e
    exact h.runTask _ (h.later (t := { s.arm with inp := p }) harm rfl le_rfl) e

/-- What the block's dealings with the companion keep, every step keeps. -/
theorem step {s t : State} (hs : P s) (e : step s = .next t) : P t := by
  unfold Machine.step agentStep at e
  split at e
  · cases e
    exact hs
  · split at e
    · split at e
      · exact h.schedule hs e
      · exact h.exec .startup hs e
    · next rest _ =>
      split at e
      · exact h.issue _ (h.later (t := { s with opPort := rest }) hs rfl le_rfl) e
      · cases e

end OfCompanion

end Sys2Proof.Machine
end

section
/-! PROOFS. Every step keeps what is known of the companion in its form (O55). -/

namespace Sys2Proof.Machine

/-! The outcomes of an attempt, for the watchdog and the known registers. -/

section Attempts

variable (c : Companion) (any : Bool) (now : Nat) (r : Byte) (resp : BusResp)

/-- A read that succeeds is traffic, and one that fails leaves the watchdog alone (60_exceptions R632). -/
theorem answerRead_wdog (n : Nat) :
    (∃ bs, (c.answerRead any now r n resp).1 = .ok bs ∧ (c.answerRead any now r n resp).2.wdog = c.wdog.touch any now) ∨
      ∃ f, (c.answerRead any now r n resp).1 = .error f ∧ (c.answerRead any now r n resp).2.wdog = c.wdog := by
  have settled (res : Except Failure (List Byte)) (d : Companion) :
      (∃ bs, (Companion.answerRead.settle any now res d).1 = .ok bs ∧
        (Companion.answerRead.settle any now res d).2.wdog = d.wdog.touch any now) ∨
      ∃ f, (Companion.answerRead.settle any now res d).1 = .error f ∧
        (Companion.answerRead.settle any now res d).2.wdog = d.wdog := by
    cases res with
    | ok bs => exact .inl ⟨bs, rfl, rfl⟩
    | error f => exact .inr ⟨f, rfl, rfl⟩
  unfold Companion.answerRead
  split
  · exact settled _ c
  · exact settled _ { c with ref := _ }

/-- What a write attempt makes of the known registers and of the watchdog, by its success (60_exceptions R631, R632). -/
theorem answerWrite_eq (data : List Byte) :
    (c.answerWrite any now r data resp).2.mem =
        noteWrite c.mem r data (succeeded (c.answerWrite any now r data resp).1) ∧
      (c.answerWrite any now r data resp).2.wdog =
        c.wdog.afterWrite any now r data (succeeded (c.answerWrite any now r data resp).1) := by
  unfold Companion.answerWrite
  split <;> exact ⟨rfl, rfl⟩

end Attempts

/-! The known registers (60_exceptions R631). -/

/-- Only USB registers are known, and to hold 0 or 1. -/
def Memory.usbBits (m : Memory) : Prop := ∀ c ∈ m, 0x26 ≤ c.1 ∧ c.1 ≤ 0x29 ∧ (c.2 = 0 ∨ c.2 = 1)

theorem Memory.mem_put {m : Memory} {a : Nat} {v : Byte} {c : Host.Cell} (h : c ∈ m.put a v) : c = (a, v) ∨ c ∈ m := by
  induction m with
  | nil => exact .inl (List.mem_singleton.mp h)
  | cons d m ih =>
    unfold Memory.put at h
    split at h
    · exact List.mem_cons.mp h
    · split at h
      · exact (List.mem_cons.mp h).imp_right (List.mem_cons_of_mem d)
      · obtain rfl | h := List.mem_cons.mp h
        · exact .inr List.mem_cons_self
        · exact (ih h).imp_right (List.mem_cons_of_mem d)

theorem Memory.mem_forget {m : Memory} {a : Nat} {c : Host.Cell} (h : c ∈ m.forget a) : c ∈ m := by
  induction m with
  | nil => exact h
  | cons d m ih =>
    unfold Memory.forget at h
    split at h
    · exact List.mem_cons_of_mem d h
    · obtain rfl | h := List.mem_cons.mp h
      · exact List.mem_cons_self
      · exact List.mem_cons_of_mem d (ih h)

/-- A write attempt makes only a USB register known, and only to hold 0 or 1. -/
theorem Memory.usbBits_noteWrite {m : Memory} (hm : m.usbBits) (r : Byte) (data : List Byte) (ok : Bool) :
    (noteWrite m r data ok).usbBits := by
  intro c hc
  unfold noteWrite at hc
  split at hc
  · next hr =>
    split at hc
    · next hknown =>
      obtain rfl | hc := Memory.mem_put hc
      · have hrange : 0x26 ≤ r.toNat ∧ r.toNat ≤ 0x29 := by simpa [isUsbReg] using hr
        have hdata : data = [0] ∨ data = [1] := by
          simp only [Bool.and_eq_true, Bool.or_eq_true, beq_iff_eq] at hknown
          exact hknown.2
        have hbyte : Machine.byteAt data 0 = 0 ∨ Machine.byteAt data 0 = 1 := by
          obtain rfl | rfl := hdata
          · exact .inl rfl
          · exact .inr rfl
        exact ⟨hrange.1, hrange.2, hbyte⟩
      · exact hm c hc
    · exact hm c (Memory.mem_forget hc)
  · exact hm c hc

/-! The watchdog (60_exceptions R632). -/

/-- An armed deadline is at most its timeout away, a timeout that two bytes hold. -/
def Watchdog.within (w : Watchdog) (now : Nat) : Prop :=
  ∀ timeout deadline, w = .armed timeout deadline → 0 < timeout ∧ timeout < 65536 ∧ deadline ≤ now + 10 * timeout

theorem Watchdog.within.later {w : Watchdog} {now till : Nat} (h : w.within now) (hle : now ≤ till) : w.within till := by
  intro timeout deadline hw
  obtain ⟨hpos, hlt, hd⟩ := h timeout deadline hw
  exact ⟨hpos, hlt, by omega⟩

theorem Watchdog.within_unknown (now : Nat) : Watchdog.unknown.within now := nofun

theorem Watchdog.within_disabled (now : Nat) : Watchdog.disabled.within now := nofun

theorem Watchdog.within_armed {timeout : Nat} (hpos : 0 < timeout) (hlt : timeout < 65536) (now : Nat) :
    (Watchdog.armed timeout (now + 10 * timeout)).within now := by
  rintro _ _ ⟨⟩
  exact ⟨hpos, hlt, le_rfl⟩

theorem Watchdog.within.touch {w : Watchdog} {now : Nat} (h : w.within now) (any : Bool) : (w.touch any now).within now := by
  cases w with
  | unknown => exact Watchdog.within_unknown now
  | disabled => exact Watchdog.within_disabled now
  | armed timeout deadline =>
    obtain ⟨hpos, hlt, -⟩ := h timeout deadline rfl
    cases any with
    | false => exact h
    | true => exact Watchdog.within_armed hpos hlt now

theorem decBe_pair_lt {data : List Byte} (h : data.length = 2) : decBe data < 65536 := by
  obtain ⟨a, b, rfl⟩ := List.length_eq_two.mp h
  simp only [decBe, decBeFrom]
  have := a.isLt
  have := b.isLt
  omega

theorem Watchdog.within.afterWrite {w : Watchdog} {now : Nat} (h : w.within now) (any : Bool) (r : Byte) (data : List Byte)
    (ok : Bool) : (w.afterWrite any now r data ok).within now := by
  unfold Watchdog.afterWrite
  split
  · split
    · next hok =>
      simp only [Bool.and_eq_true, beq_iff_eq] at hok
      split
      · exact Watchdog.within_disabled now
      · next hzero => exact Watchdog.within_armed (by omega) (decBe_pair_lt hok.2) now
    · exact Watchdog.within_unknown now
  · split
    · exact h.touch any
    · exact h

/-- The block's dealings with the companion keep what is known of it in its form. -/
theorem ofCompanion_companionInv : OfCompanion State.companionInv where
  later := fun ⟨hwf, hbits, hw⟩ hcomp hle => by
    unfold State.companionInv
    rw [hcomp]
    exact ⟨hwf, hbits, Watchdog.within.later hw hle⟩
  read := fun {s} r n resp ⟨hwf, hbits, hw⟩ => by
    unfold State.companionInv
    rw [answerRead_mem]
    refine ⟨hwf, hbits, ?_⟩
    obtain ⟨-, -, e⟩ | ⟨-, -, e⟩ := answerRead_wdog s.comp s.par.wdAnyTraffic s.now r resp n
    · rw [e]
      exact Watchdog.within.touch hw _
    · rw [e]
      exact hw
  write := fun {s} r data resp ⟨hwf, hbits, hw⟩ => by
    obtain ⟨hmem, hwdog⟩ := answerWrite_eq s.comp s.par.wdAnyTraffic s.now r resp data
    unfold State.companionInv
    rw [hmem, hwdog]
    exact ⟨wf_noteWrite _ _ _ hwf, Memory.usbBits_noteWrite hbits _ _ _, Watchdog.within.afterWrite hw _ _ _ _⟩
  traffic := fun ⟨hwf, hbits, hw⟩ => ⟨hwf, hbits, Watchdog.within.touch hw _⟩
  lost := fun _ _ ⟨hwf, hbits, hw⟩ => ⟨wf_noteWrite _ _ _ hwf, Memory.usbBits_noteWrite hbits _ _ _, hw⟩
  cut := fun {s} ⟨hwf, hbits, _⟩ => ⟨hwf, hbits, Watchdog.within_unknown s.now⟩

/-- Settles O55: a step is made of the block's dealings with the companion, each of which keeps the form. -/
theorem stepKeepsCompanion : Obligations.StepKeepsCompanion := by
  unfold Obligations.StepKeepsCompanion
  intro s t hs h
  exact ofCompanion_companionInv.step hs h

end Sys2Proof.Machine
end

section
/-! PROOFS. The companion's watchdog (O18): what a transaction that succeeds leaves of the deadline, and where a cut of host
power ends an attempt, a sleep and an idle wait. -/

namespace Sys2Proof.Machine

/-! Transactions and the deadline (60_exceptions R632). -/

/-- The watchdog is `w`, and `any` says whether any traffic restarts it. -/
def State.watches (w : Watchdog) (any : Bool) (s : State) : Prop := s.comp.wdog = w ∧ s.par.wdAnyTraffic = any

section Deadline

variable {α : Type} {F : Prop} {P : State → Prop} {R : Err → State → Prop} {W : State → Prop} {w : Watchdog}
  {any : Bool} {s t : State}

/-- What lands at a suspension point is no traffic. -/
theorem undisturbed_watches : Undisturbed (State.watches w any) :=
  ⟨fun ⟨hw, hany⟩ => ⟨by rwa [State.elapse_comp], by rwa [State.elapse_par]⟩, id⟩

/-- A read attempt is traffic where it succeeds, and nothing to the watchdog where it fails. -/
theorem meets_memRead_watches (r : Byte) (n : Nat) :
    Meets True (State.watches w any) (memRead r n)
      (fun res u => (∀ bs, res = .ok bs → u.comp.wdog = w.touch any u.now) ∧ ∀ f, res = .error f → u.watches w any)
      R W := by
  refine meets_bind meets_guardBus fun _ => meets_bind (undisturbed_watches.draw draws_popBus) fun d =>
    meets_bind (undisturbed_watches.suspend _ _) fun _ => ?_
  rintro u ⟨rfl, rfl⟩
  obtain ⟨bs, hres, hwdog⟩ | ⟨f, hres, hwdog⟩ := answerRead_wdog u.comp u.par.wdAnyTraffic u.now r d.resp n
  · exact ⟨fun _ _ => hwdog, fun f hf => (by cases hres.symm.trans hf)⟩
  · exact ⟨fun bs hbs => (by cases hres.symm.trans hbs), fun _ _ => ⟨hwdog, rfl⟩⟩

/-- What a write attempt makes of the watchdog, by its success. -/
theorem meets_memWrite_watches (r : Byte) (data : List Byte) :
    Meets True (State.watches w any) (memWrite r data)
      (fun res u => u.watches (w.afterWrite any u.now r data (succeeded res)) any) R W := by
  refine meets_bind meets_guardBus fun _ => meets_bind (undisturbed_watches.draw draws_popBus) fun d =>
    meets_bind (undisturbed_watches.suspend _ _).onCut fun _ => ?_
  rintro u ⟨rfl, rfl⟩
  exact ⟨(answerWrite_eq u.comp u.par.wdAnyTraffic u.now r d.resp data).2, rfl⟩

/-- A transaction whose failed attempts keep `P` ends with its last attempt's success, if it goes on. -/
theorem meets_transaction {x : Op (Except Failure α)} {Q : α → State → Prop} (hP : Undisturbed P)
    (hx : Meets True P x (fun res u => (∀ v, res = .ok v → Q v u) ∧ ∀ f, res = .error f → P u) (fun _ _ => False)
      fun _ => False) :
    Meets True P (attempt4 x) Q (fun _ _ => True) fun _ => False :=
  (meets_retryLoop (P := fun _ => P) (Q := fun _ => Q)
    (fun _ => hx.mono
      (fun res _ ⟨hok, hfail⟩ => by cases res with | ok v => exact hok v rfl | error f => exact hfail f rfl)
      (fun _ _ => id) fun _ => id)
    (fun _ => hP.sleep _) retryMax []).mono
    (fun _ _ ⟨_, _, hQ⟩ => hQ) (fun _ _ _ => trivial) fun _ => id

/-- A read that succeeds is traffic at its last attempt's end. -/
theorem meets_rdreg_watches (r : Byte) (n : Nat) :
    Meets True (State.watches w any) (rdreg r n) (fun _ u => u.comp.wdog = w.touch any u.now) (fun _ _ => True)
      fun _ => False :=
  meets_transaction undisturbed_watches (meets_memRead_watches r n)

/-- So is a write to a register other than the watchdog's. -/
theorem meets_wrreg_watches {r : Byte} (hr : r ≠ 0x10) (data : List Byte) :
    Meets True (State.watches w any) (wrreg r data) (fun _ u => u.comp.wdog = w.touch any u.now) (fun _ _ => True)
      fun _ => False := by
  have hreg : r.toNat ≠ 0x10 := fun h => hr (BitVec.eq_of_toNat_eq h)
  refine meets_transaction undisturbed_watches ((meets_memWrite_watches r data).mono ?_ (fun _ _ => id) fun _ => id)
  rintro res u ⟨hwdog, hany⟩
  rw [Watchdog.afterWrite, if_neg hreg] at hwdog
  refine ⟨?_, ?_⟩
  · rintro _ rfl
    exact hwdog
  · rintro _ rfl
    exact ⟨hwdog, hany⟩

/-- A write of two bytes to the watchdog's register that succeeds sets the deadline their number of centiseconds after its
last attempt's end, or removes it. -/
theorem meets_wrreg_watchdog {data : List Byte} (hlen : data.length = 2) :
    Meets True (fun _ => True) (wrreg 0x10 data)
      (fun _ u => u.comp.wdog = if decBe data = 0 then .disabled else .armed (decBe data) (u.now + 10 * decBe data))
      (fun _ _ => True) fun _ => False := by
  refine meets_transaction ⟨id, id⟩ fun s _ => ?_
  have hattempt := meets_memWrite_watches (R := fun _ _ => False) (W := fun _ => False) 0x10 data s ⟨rfl, rfl⟩
  refine hattempt.mono ?_ (fun _ _ => id) fun _ => id
  rintro res u ⟨hwdog, -⟩
  refine ⟨?_, fun _ _ => trivial⟩
  rintro _ rfl
  have hreg : (0x10 : Byte).toNat = 0x10 := rfl
  rw [hwdog, Watchdog.afterWrite, if_pos hreg, if_pos (by simp [succeeded, hlen])]

/-- An arm or a feed that succeeds (41_register_ops R258, R259). -/
theorem meets_wdArm_armed : Meets True (fun _ => True) wdArm (fun _ u => u.comp.wdog = .armed 1000 (u.now + 10000))
    (fun _ _ => True) fun _ => False := by
  have hdata : decBe (beN 2 wdTimeoutCs) = 1000 := by decide
  have hwrite := meets_wrreg_watchdog (data := beN 2 wdTimeoutCs) rfl
  rw [hdata] at hwrite
  exact hwrite

/-- A disable that succeeds (41_register_ops R260). -/
theorem meets_wdDisable_disabled : Meets True (fun _ => True) wdDisable (fun _ u => u.comp.wdog = .disabled)
    (fun _ _ => True) fun _ => False := by
  have hdata : decBe (beN 2 0) = 0 := by decide
  have hwrite := meets_wrreg_watchdog (data := beN 2 0) rfl
  rw [hdata] at hwrite
  exact hwrite

/-- A transaction whose result is a value went on to it. -/
theorem Meets.of_value {x : Op α} {f : α → Value} {v : Value} {Q : α → State → Prop}
    (hx : Meets F P x Q R fun _ => False) (hs : P s) (hn : finish (Machine.giving f x) s = .next t)
    (hv : t.result = some (.value v)) : ∃ a u, Q a u ∧ t = u.gives (f a) := by
  have hwait (u : State) : x s ≠ .error .wait u := fun hw => by
    have hend := hx s hs
    rw [hw] at hend
    exact hend
  obtain ⟨a, u, hok, rfl⟩ | ⟨e, u, -, rfl⟩ | ⟨u, -, rfl⟩ := giving_next hwait hn
  · exact ⟨a, u, hx.of_ok hs hok, rfl⟩
  · cases hv
  · cases hv

/-- Traffic on an armed watchdog restarts its deadline where the parameter says so. -/
theorem Watchdog.touch_armed (any : Bool) (timeout deadline now : Nat) :
    (Watchdog.armed timeout deadline).touch any now = .armed timeout (if any then now + 10 * timeout else deadline) := by
  cases any <;> rfl

/-- What other traffic leaves of an armed watchdog, as the value of a transaction. -/
theorem touched_of_value {x : Op α} {f : α → Value} {v : Value} {timeout deadline : Nat}
    (hx : ∀ w any, Meets True (State.watches w any) x (fun _ u => u.comp.wdog = w.touch any u.now) (fun _ _ => True)
      fun _ => False)
    (hw : s.comp.wdog = .armed timeout deadline) (hn : finish (giving f x) s = .next t) (hv : t.result = some (.value v)) :
    t.comp.wdog = .armed timeout (if s.par.wdAnyTraffic then t.now + 10 * timeout else deadline) := by
  obtain ⟨a, u, hwdog, rfl⟩ := (hx _ s.par.wdAnyTraffic).of_value ⟨hw, rfl⟩ hn hv
  rw [State.gives_comp, State.gives_now, hwdog, Watchdog.touch_armed]

end Deadline

/-! Cuts of host power (60_exceptions R639, log 46). -/

section Cuts

variable {s : State} {d : BusDraw} {ds : List BusDraw} {p : Susp} {ps : List Susp} {r : Byte} {ms cut : Nat}

/-- A suspension that host power ends, by a passed deadline or by the draw. -/
theorem suspend_cutIn (h : s.cutIn p ms cut) : suspend ms p s = .error .cut (s.elapse cut p.acts) := by
  unfold suspend suspLength
  obtain ⟨timeout, deadline, hw, hpassed, rfl⟩ | ⟨hcut, hlasts, rfl⟩ := h
  · rw [hw, if_pos (by simpa [Watchdog.expired] using hpassed)]
    rfl
  · simp [hcut, hlasts]

theorem memRead_cutIn (n : Nat) (ho : s.busOpen = true) (hh : s.holder = some s.cur) (hd : s.inp.bus = d :: ds)
    (h : s.cutIn d.susp d.susp.dur cut) :
    memRead r n s = .error .cut ({ s with inp := { s.inp with bus := ds } }.elapse cut d.susp.acts) := by
  have hpop : popBus s = .ok d { s with inp := { s.inp with bus := ds } } := by simp [popBus, hd]
  have hsusp := suspend_cutIn (s := { s with inp := { s.inp with bus := ds } }) h
  unfold memRead
  rw [Op.bind_ok (guardBus_ok ho hh), Op.bind_ok hpop, Op.bind_error hsusp]

/-- A write attempt in flight is lost (log 13). -/
theorem memWrite_cutIn (data : List Byte) (ho : s.busOpen = true) (hh : s.holder = some s.cur) (hd : s.inp.bus = d :: ds)
    (h : s.cutIn d.susp d.susp.dur cut) :
    memWrite r data s =
      .error .cut (({ s with inp := { s.inp with bus := ds } }.elapse cut d.susp.acts).lostWrite r data) := by
  have hpop : popBus s = .ok d { s with inp := { s.inp with bus := ds } } := by simp [popBus, hd]
  have hsusp := suspend_cutIn (s := { s with inp := { s.inp with bus := ds } }) h
  unfold memWrite
  rw [Op.bind_ok (guardBus_ok ho hh), Op.bind_ok hpop, Op.bind_error (onCut_cut hsusp)]

theorem sleep_cutIn (hp : s.inp.sleep = p :: ps) (h : s.cutIn p (ms + p.dur) cut) :
    sleep ms s = .error .cut ({ s.emit (.sleep ms) with inp := { s.inp with sleep := ps } }.elapse cut p.acts) := by
  have hpop : popSleep (s.emit (.sleep ms)) = .ok p { s.emit (.sleep ms) with inp := { s.inp with sleep := ps } } := by
    simp [popSleep, hp]
  unfold sleep
  rw [Op.bind_ok (emit_run _ s), Op.bind_ok hpop]
  exact suspend_cutIn (s := { s.emit (.sleep ms) with inp := { s.inp with sleep := ps } }) h

/-- The sleep before the commit and before the abort (44_dfu_engine R397, R400). -/
theorem exec_endSequence_cutIn {x : Instr × DfuPoint}
    (hx : x ∈ [(Instr.dfuCommitSeq, DfuPoint.commit), (.dfuAbortSeq, .abort)]) (hp : s.inp.sleep = p :: ps)
    (h : s.cutIn p (100 + p.dur) cut) :
    exec x.1 s = .next ({ (s.dfuAt s.cur x.2).emit (.sleep 100) with
      inp := { s.inp with sleep := ps } }.elapse cut p.acts).powerCut := by
  have hsleep (q : DfuPoint) := sleep_cutIn (s := s.dfuAt s.cur q) (ms := 100) hp h
  simp only [List.mem_cons, List.not_mem_nil, or_false] at hx
  obtain rfl | rfl := hx
  · exact doing_cut ((Op.bind_ok (setDfu_run .commit s)).trans (Op.bind_error (hsleep .commit)))
  · exact doing_cut ((Op.bind_ok (setDfu_run .abort s)).trans (Op.bind_error (hsleep .abort)))

/-- A sleeping block before its wake time, with nothing under way at the control port, waits. -/
theorem step_idle {w : Nat} (hup : s.up = true) (hport : s.opPort = []) (hsup : s.pcSup = .sleeping)
    (hsig : s.sigCancel = false) (hwake : s.supWake = some w) (hnow : s.now < w) (hreqs : s.reqs.filter Request.arrived = [])
    (hwait : s.waiters = []) (hreplies : s.replies = []) : step s = runIdle s := by
  have harm : s.arm = s := by simp [State.arm, hwake]
  have htasks : s.tasks = [] := by
    simp [State.tasks, State.due, State.ipc, State.supReady, hsup, hsig, hwake, hnow, hreqs, hwait, hreplies]
  have hagent : step s = agentStep s := by simp [step, hsup, hport]
  rw [hagent, agentStep, if_pos hup, schedule, harm, htasks]

/-- An idle wait ends at the wake time or the first arrival, or at a cut before (log 35). -/
theorem runIdle_cutIn {w : Nat} (hwake : s.supWake = some w) (hp : s.inp.idle = p :: ps)
    (hms : ms = (match p.acts with | [] => w - s.now | a :: _ => min a.after (w - s.now))) (h : s.cutIn p ms cut) :
    runIdle s = .next ({ s with inp := { s.inp with idle := ps } }.elapse cut (p.acts.take 1)).powerCut := by
  obtain rfl : w = s.supWake.getD s.now := by simp [hwake]
  subst hms
  have hpop : popIdle s = .ok p { s with inp := { s.inp with idle := ps } } := by simp [popIdle, hp]
  have hidle : idle s = .error .cut ({ s with inp := { s.inp with idle := ps } }.elapse cut (p.acts.take 1)) := by
    unfold idle
    rw [Op.bind_ok hpop, Op.bind_ok (Op.get_run _)]
    exact suspend_cutIn (s := { s with inp := { s.inp with idle := ps } }) (p := { p with acts := p.acts.take 1 }) h
  unfold runIdle
  rw [hidle]

end Cuts

/-- Settles O18: each transaction's success is its last attempt's, and every cut is a cut in a suspension. -/
theorem watchdogDeadline : Obligations.WatchdogDeadline := by
  unfold Obligations.WatchdogDeadline
  intro s t
  refine ⟨fun i hi hn hv => ?armed, fun hn hv => ?disabled, fun r n timeout deadline hw => ⟨?read, ?write⟩,
    fun r n d ds cut u ho hh hd hcut hu => ?attempt, fun x hx p ps cut hp hcut => exec_endSequence_cutIn hx hp hcut,
    fun w p ps ms cut hup hport hsup hsig hwake hnow hreqs hwait hreplies hp hms hcut => ?idle⟩
  case armed =>
    have hfinish : finish (giving (fun _ => .unit) wdArm) s = .next t := by
      simp only [List.mem_cons, List.not_mem_nil, or_false] at hi
      obtain rfl | rfl := hi <;> exact hn
    obtain ⟨-, u, hwdog, rfl⟩ := meets_wdArm_armed.of_value trivial hfinish hv
    exact hwdog
  case disabled =>
    obtain ⟨-, u, hwdog, rfl⟩ := Meets.of_value (f := fun _ => .unit) meets_wdDisable_disabled trivial hn hv
    exact hwdog
  case read =>
    rintro hn ⟨bs, hv⟩
    exact touched_of_value (fun _ _ => meets_rdreg_watches r n) hw hn hv
  case write =>
    intro data hr hn hv
    exact touched_of_value (f := fun _ => .unit) (fun _ _ => meets_wrreg_watches hr data) hw hn hv
  case attempt =>
    subst hu
    exact ⟨giving_cut (retryLoop_error (memRead_cutIn n ho hh hd hcut) _),
      fun data => doing_cut (retryLoop_error (memWrite_cutIn data ho hh hd hcut) _)⟩
  case idle =>
    rw [step_idle hup hport hsup hsig hwake hnow hreqs hwait hreplies]
    exact runIdle_cutIn hwake hp hms hcut

end Sys2Proof.Machine
end

section
/-! PROOFS. STARTUP followed step by step: its exits before the bus is open (O37), and from the open bus on the version read and the
first arm (O36). -/

namespace Sys2Proof.Machine

section Startup

variable {s u : State} {b : BootInput} {bs : List BootInput} {c : Cfg} {o : OpenDraw} {os : List OpenDraw} {e : TransportError}

/-! Before the bus is open (70_reset R700, R703, R705). -/

theorem guardReset_ok (hshut : s.busOpen = false) (hrun : s.pcSup ≠ .exited) : guardReset s = .ok () s := by
  unfold guardReset
  rw [Op.bind_ok (Op.get_run s), if_neg (by simp [hshut, hrun])]
  rfl

/-- STARTUP on a block that exited stops at once (70_reset R708). -/
theorem startup_exited (h : s.pcSup = .exited) : startup s = .error (.stop .alreadyStarted) s := by
  refine Op.bind_error ?_
  unfold guardReset
  rw [Op.bind_ok (Op.get_run s), if_pos (.inr h)]
  rfl

theorem popBoot_cons (h : s.inp.boot = b :: bs) : popBoot s = .ok b { s with inp := { s.inp with boot := bs } } := by
  simp [popBoot, h]

theorem popOpen_cons (h : s.inp.opened = o :: os) : popOpen s = .ok o { s with inp := { s.inp with opened := os } } := by
  simp [popOpen, h]

section Booting

variable (hshut : s.busOpen = false) (hrun : s.pcSup ≠ .exited) (hboot : s.inp.boot = b :: bs)

include hshut hrun hboot

theorem startup_invalid {f : BadConfig} (hc : configOf s.par b = .error f) :
    startup s = exitBeforeBus 2 (.configInvalid f) { s with inp := { s.inp with boot := bs } } := by
  unfold startup
  rw [Op.bind_ok (guardReset_ok hshut hrun), Op.bind_ok (popBoot_cons hboot), Op.bind_ok (Op.get_run _)]
  simp only [hc]

theorem startup_valid (hc : configOf s.par b = .ok c) : startup s = openBus c { s with inp := { s.inp with boot := bs } } := by
  unfold startup
  rw [Op.bind_ok (guardReset_ok hshut hrun), Op.bind_ok (popBoot_cons hboot), Op.bind_ok (Op.get_run _)]
  simp only [hc]

end Booting

/-- What is left of STARTUP once the open of the bus has been answered (70_reset R700). -/
def answerOpen (c : Cfg) : Option Errno → Op Unit
  | some e => exitBeforeBus 1 (.busOpenFailed e)
  | none => do
    modify fun s => { s with busOpen := true, handle := some ⟨c.busIndex, c.deviceAddress⟩ }
    startOnBus

/-- The open of the bus, through which host power lasts. -/
theorem openBus_answered (hopen : s.inp.opened = o :: os) (hcut : o.susp.cut = false)
    (hw : s.comp.wdog.expired (s.now + o.susp.dur) = false) :
    openBus c s = answerOpen c o.failed
      (({ s with inp := { s.inp with opened := os }, cfg := c }.elapse (s.now + o.susp.dur) o.susp.acts).emit
        (.openBus c.busIndex c.deviceAddress o.failed)) := by
  have hsusp := suspend_ok (s := { s with inp := { s.inp with opened := os }, cfg := c }) hcut hw
  unfold openBus
  rw [Op.bind_ok (Op.modify_run _ s), Op.bind_ok (popOpen_cons (s := { s with cfg := c }) hopen), Op.bind_ok hsusp,
    Op.bind_ok (emit_run _ _)]
  cases o.failed <;> rfl

/-! From the open bus on (70_reset R700 to R702). -/

theorem startOnBus_of_version {v : FwVersion} (hl : s.canLock) (h : rdFwver s.takeLock = .ok v u) :
    startOnBus s = firstArm { u with dialect := some (dialectOf v.major) } := by
  unfold startOnBus
  rw [Op.bind_ok (acquire_free _ hl), Op.bind_ok (attemptTransport_ok h)]
  exact Op.bind_ok (Op.modify_run _ u)

theorem startOnBus_of_failure (hl : s.canLock) (h : rdFwver s.takeLock = .error (.raise (.transport e)) u)
    (hu : u.holder = some u.cur) : startOnBus s = exitSeq 1 { u.dropLock with supErr := some (.startupReadFailed e) } := by
  unfold startOnBus
  rw [Op.bind_ok (acquire_free _ hl), Op.bind_ok (attemptTransport_raise h)]
  exact (Op.bind_ok (unlock_holder hu)).trans (Op.bind_ok (Op.modify_run _ _))

theorem firstArm_of_success (h : wdArm s = .ok () u) (hu : u.holder = some u.cur) :
    firstArm s = .ok () { { u with lastFed := some u.now, fsm := .ok }.dropLock with
      up := true, pcSup := .init, pcSig := .idle } := by
  unfold firstArm
  rw [Op.bind_ok (attemptTransport_ok h)]
  exact (Op.bind_ok (Op.modify_run _ u)).trans
    (Op.bind_ok (unlock_holder (s := { u with lastFed := some u.now, fsm := .ok }) hu))

theorem firstArm_of_transient (h : wdArm s = .error (.raise (.transport e)) u) (hu : u.holder = some u.cur)
    (he : transportFatal e = false) :
    firstArm s = .ok () { { u with fsm := .start }.dropLock with up := true, pcSup := .init, pcSig := .idle } := by
  unfold firstArm
  rw [Op.bind_ok (attemptTransport_raise h)]
  simp only [he]
  exact (Op.bind_ok (Op.modify_run _ u)).trans (Op.bind_ok (unlock_holder (s := { u with fsm := .start }) hu))

theorem firstArm_of_fatal (h : wdArm s = .error (.raise (.transport e)) u) (hu : u.holder = some u.cur)
    (he : transportFatal e = true) : firstArm s = exitSeq 1 u.dropLock := by
  unfold firstArm
  rw [Op.bind_ok (attemptTransport_raise h)]
  simp only [he]
  exact Op.bind_ok (unlock_holder hu)

theorem isTransaction_rdFwver : IsTransaction rdFwver := fun s => (onBus_supFace s).rdFwver

/-- An answered attempt leaves the lock with its holder. -/
theorem State.didRead_holds {d : BusDraw} {r : Byte} {n : Nat} (h : s.awaits d) :
    (s.didRead d r n).holder = some (s.didRead d r n).cur := by
  obtain ⟨-, hh, -⟩ := h
  simpa [State.didRead, State.atAnswer] using hh

theorem State.didWrite_holds {d : BusDraw} {r : Byte} {data : List Byte} (h : s.awaits d) :
    (s.didWrite d r data).holder = some (s.didWrite d r data).cur := by
  obtain ⟨-, hh, -⟩ := h
  simpa [State.didWrite, State.atAnswer] using hh

end Startup

/-- Two operations that go the same way have the same meaning. -/
theorem doing_congr {x y : Op Unit} {s t : State} (h : x s = y t) : finish (doing x) s = finish (doing y) t := by
  have hdoing : doing x s = doing y t := by
    simp only [doing, bind, EStateM.bind, h]
  simp only [finish, hdoing]

/-- Settles O37: the configuration and the open are tested before anything is sent. -/
theorem startupExits : Obligations.StartupExits := by
  unfold Obligations.StartupExits
  intro s
  refine ⟨fun hshut hrun b bs hboot => ⟨fun f hc => ?invalid, fun c o os e u hc hopen hfail hcut hw hu => ?failed⟩, ?again⟩
  case invalid => exact doing_ok (startup_invalid hshut hrun hboot hc)
  case failed =>
    have hstart := (startup_valid hshut hrun hboot hc).trans
      (openBus_answered (s := { s with inp := { s.inp with boot := bs } }) hopen hcut hw)
    rw [hfail] at hstart
    subst hu
    exact doing_ok hstart
  case again =>
    rintro (hopen | hexited)
    · exact doing_stop (startup_open hopen)
    · exact doing_stop (startup_exited hexited)

/-- Settles O36: from the open bus on, the version read and the arm decide where STARTUP ends. -/
theorem startupCompletes : Obligations.StartupCompletes := by
  unfold Obligations.StartupCompletes
  intro s s1 s2 b bs c o os hshut hrun hboot hc hopen hfail hcut hw hs1 hs2 hl
  have hstart : startup s = startOnBus s2 := by
    have hopened := (startup_valid hshut hrun hboot hc).trans
      (openBus_answered (s := { s with inp := { s.inp with boot := bs } }) hopen hcut hw)
    rw [hfail] at hopened
    subst hs1 hs2
    exact hopened
  have hresult : s2.result = s.result := by
    subst hs2 hs1
    simp
  refine ⟨fun s3 d1 maj min pat alpha hread hs3 => ?read, fun e u hversion hu => ?unread⟩
  case unread =>
    have hraise := isTransaction_rdFwver.of_fails hversion (hu.trans hresult.symm)
    exact doing_congr (hstart.trans
      (startOnBus_of_failure hl hraise (State.holds_of_supFace (isTransaction_rdFwver.raise hraise) rfl)))
  case read =>
    have harm : startup s = firstArm s3 := by
      rw [hstart, startOnBus_of_version hl (rdFwver_reads hread), hs3]
      rfl
    have hheld : s3.holder = some s3.cur := by
      subst hs3
      exact State.didRead_holds (r := 0x04) (n := 4) hread.1
    refine ⟨fun s4 s5 d2 hwrite hs4 hs5 => ?armed, fun e u hfails hu => ?unarmed⟩
    case armed =>
      subst hs5 hs4
      exact doing_ok (harm.trans (firstArm_of_success (wdFeed_writes hwrite) (State.didWrite_holds hwrite.1)))
    case unarmed =>
      have hres : s3.result = s.result := by
        subst hs3
        simpa [State.didRead, State.atAnswer] using hresult
      have hraise := isTransaction_wdArm.of_fails (f := fun _ => .unit) hfails (hu.trans hres.symm)
      have hholds := State.holds_of_supFace (isTransaction_wdArm.raise hraise) hheld
      exact ⟨fun he => doing_ok (harm.trans (firstArm_of_transient hraise hholds he)),
        fun he => doing_congr (harm.trans (firstArm_of_fatal hraise hholds he))⟩

end Sys2Proof.Machine
end

section
/-! PROOFS. The resolved configuration, field by field (O39). -/

namespace Sys2Proof.Machine

/-! What a value of each type reads as (70_reset R703, log 24). -/

section Readers

variable {v : CfgValue}

theorem asNat_eq_some_iff {n : Nat} : asNat v = some n ↔ v = .int n := by
  cases v with
  | int i =>
    simp only [asNat, CfgValue.int.injEq]
    split
    · rw [Option.some.injEq]
      omega
    · simp only [false_iff, reduceCtorEq]
      omega
  | rat q => simp [asNat]
  | text x => simp [asNat]

theorem asText_eq_some_iff {x : Text} : asText v = some x ↔ v = .text x := by
  cases v <;> simp [asText]

/-- An address in its range is read off its own number. -/
theorem asAddress_eq_some_iff {a : BitVec 7} (hl : 0x08 ≤ a.toNat) (hu : a.toNat ≤ 0x77) :
    asAddress v = some a ↔ v = .int a.toNat := by
  cases v with
  | int i =>
    simp only [asAddress, CfgValue.int.injEq]
    split
    · rw [Option.some.injEq, ← BitVec.toNat_inj, BitVec.toNat_ofNat]
      omega
    · simp only [false_iff, reduceCtorEq]
      omega
  | rat q => simp [asAddress]
  | text x => simp [asAddress]

theorem asRatIn_eq_some_iff {lo hi q : Rat} (hl : lo ≤ q) (hu : q ≤ hi) : asRatIn lo hi v = some q ↔ isRat v q := by
  refine ⟨fun h => ?_, fun h => asRatIn_some h hl hu⟩
  unfold asRatIn at h
  split at h
  · next x hx =>
    split at h
    · obtain rfl := Option.some.inj h
      exact asRat_eq_some_iff.mp hx
    · cases h
  · cases h

end Readers

/-! One field (70_reset R704). -/

/-- The value of a field: what is given for it, read as the field's type, else its built-in default. -/
def resolveField {α : Type} (read : CfgValue → Option α) (given : Option CfgValue) (builtIn : α) : Option α :=
  match given with
  | some v => read v
  | none => some builtIn

/-- Setting the field `f` is reading a value of its type and putting it there. -/
def SetsField {α : Type} (f : CfgField) (read : CfgValue → Option α) (own : Cfg → α) (put : Cfg → α → Cfg) : Prop :=
  ∀ c, put c (own c) = c ∧ ∀ v, setField c f v = (read v).map (put c)

theorem setsField_busIndex : SetsField .busIndex asNat Cfg.busIndex fun c x => { c with busIndex := x } :=
  fun _ => ⟨rfl, fun _ => rfl⟩

theorem setsField_deviceAddress :
    SetsField .deviceAddress asAddress Cfg.deviceAddress fun c x => { c with deviceAddress := x } :=
  fun _ => ⟨rfl, fun _ => rfl⟩

theorem setsField_vlim : SetsField .vlim (asRatIn 0 30) Cfg.vlim fun c x => { c with vlim := x } :=
  fun _ => ⟨rfl, fun _ => rfl⟩

theorem setsField_tlim : SetsField .tlim (asRatIn (1 / 10) 600) Cfg.tlim fun c x => { c with tlim := x } :=
  fun _ => ⟨rfl, fun _ => rfl⟩

theorem setsField_socketPath : SetsField .socketPath asText Cfg.socketPath fun c x => { c with socketPath := x } :=
  fun _ => ⟨rfl, fun _ => rfl⟩

theorem setsField_socketGroup : SetsField .socketGroup asText Cfg.socketGroup fun c x => { c with socketGroup := x } :=
  fun _ => ⟨rfl, fun _ => rfl⟩

theorem setsField_poweroff : SetsField .poweroff asText Cfg.poweroff fun c x => { c with poweroff := x } :=
  fun _ => ⟨rfl, fun _ => rfl⟩

section Field

variable {α : Type} {read : CfgValue → Option α} {own : Cfg → α} {put : Cfg → α → Cfg} {x builtIn : α} {c d : Cfg}
  {f : CfgField} {given flag file : Option CfgValue} {rest : List (CfgField × Option CfgValue)}

/-- The values given are set one field after another. -/
theorem SetsField.applyGiven_ok_iff (h : SetsField f read own put) : applyGiven c ((f, given) :: rest) = .ok d ↔
    ∃ x, resolveField read given (own c) = some x ∧ applyGiven (put c x) rest = .ok d := by
  obtain ⟨hown, hset⟩ := h c
  cases given with
  | none => simp [applyGiven, resolveField, hown]
  | some v =>
    simp only [applyGiven, resolveField, hset v]
    cases read v <;> simp

/-- Flag, then file, then built-in default. -/
theorem resolveField_firstOf_iff {Q : CfgValue → Prop} (hread : ∀ v, read v = some x ↔ Q v) :
    resolveField read (firstOf flag file) builtIn = some x ↔
      (∀ v, flag = some v → Q v) ∧ (flag = none → ∀ v, file = some v → Q v) ∧ (flag = none → file = none → x = builtIn) := by
  cases flag with
  | some v => simp [firstOf, resolveField, hread]
  | none =>
    cases file with
    | some v => simp [firstOf, resolveField, hread]
    | none => simp [firstOf, resolveField, eq_comm]

end Field

/-! The whole configuration (70_reset R703, R704). -/

section Config

variable {par : Params} {b : BootInput} {c d : Cfg} {flags file : RawCfg}

theorem applyGiven_givenFields_ok_iff : applyGiven c (givenFields flags file) = .ok d ↔
    resolveField asNat (firstOf flags.busIndex file.busIndex) c.busIndex = some d.busIndex ∧
      resolveField asAddress (firstOf flags.deviceAddress file.deviceAddress) c.deviceAddress = some d.deviceAddress ∧
      resolveField (asRatIn 0 30) (firstOf flags.vlim file.vlim) c.vlim = some d.vlim ∧
      resolveField (asRatIn (1 / 10) 600) (firstOf flags.tlim file.tlim) c.tlim = some d.tlim ∧
      resolveField asText (firstOf flags.socketPath file.socketPath) c.socketPath = some d.socketPath ∧
      resolveField asText (firstOf flags.socketGroup file.socketGroup) c.socketGroup = some d.socketGroup ∧
      resolveField asText (firstOf flags.poweroff file.poweroff) c.poweroff = some d.poweroff := by
  simp only [givenFields, setsField_busIndex.applyGiven_ok_iff, setsField_deviceAddress.applyGiven_ok_iff,
    setsField_vlim.applyGiven_ok_iff, setsField_tlim.applyGiven_ok_iff, setsField_socketPath.applyGiven_ok_iff,
    setsField_socketGroup.applyGiven_ok_iff, setsField_poweroff.applyGiven_ok_iff, applyGiven]
  constructor
  · rintro ⟨_, hbus, _, haddress, _, hvlim, _, htlim, _, hpath, _, hgroup, _, hpoweroff, h⟩
    cases h
    exact ⟨hbus, haddress, hvlim, htlim, hpath, hgroup, hpoweroff⟩
  · rintro ⟨hbus, haddress, hvlim, htlim, hpath, hgroup, hpoweroff⟩
    exact ⟨_, hbus, _, haddress, _, hvlim, _, htlim, _, hpath, _, hgroup, _, hpoweroff, rfl⟩

theorem rangeError_eq_none_iff : rangeError c = none ↔ cfgValid c = true := by
  refine ⟨Watch.rangeError_none, fun h => ?_⟩
  obtain ⟨⟨hvl, hvu⟩, ⟨htl, htu⟩, hal, hau⟩ := (cfgValid_iff c).mp h
  have hrange : (1 / 10 : Rat) ≤ c.tlim := htl
  unfold rangeError
  rw [if_pos (by simp [hvl, hvu]), if_pos (by simp only [hrange, htu, decide_true, Bool.and_self]), if_pos (by simp [hal, hau])]

theorem finishConfig_ok_iff {r : Except BadConfig Cfg} :
    configOf.finishConfig r = .ok c ↔ cfgValid c = true ∧ r = .ok c := by
  cases r with
  | error e => simp [configOf.finishConfig]
  | ok d =>
    simp only [configOf.finishConfig, Except.ok.injEq]
    cases h : rangeError d with
    | none =>
      rw [Except.ok.injEq, iff_and_self]
      rintro rfl
      exact rangeError_eq_none_iff.mp h
    | some f =>
      simp only [reduceCtorEq, false_iff]
      rintro ⟨hv, rfl⟩
      cases h.symm.trans (rangeError_eq_none_iff.mpr hv)

/-- The file whose values count, a missing one giving nothing (log 25). -/
theorem configOf_ok_iff (hfile : confFileOf b = .values file ∨ confFileOf b = .absent ∧ file = RawCfg.empty) :
    configOf par b = .ok c ↔ cfgValid c = true ∧ applyGiven (Cfg.builtIn par) (givenFields b.flags file) = .ok c := by
  rw [← finishConfig_ok_iff]
  unfold configOf
  obtain hfile | ⟨hfile, rfl⟩ := hfile <;> rw [hfile]

theorem confFileOf_of_lookup {path : Text} {f : ConfFile} (hpath : b.conf.getD defaultConfPath = path)
    (h : b.files.lookup path = some f) : confFileOf b = f := by
  rw [confFileOf, hpath, h]
  rfl

theorem confFileOf_of_missing {path : Text} (hpath : b.conf.getD defaultConfPath = path) (h : b.files.lookup path = none) :
    confFileOf b = .absent := by
  rw [confFileOf, hpath, h]
  rfl

end Config

/-- Settles O39: each field resolves by itself, and the whole is tested for its ranges. -/
theorem configPrecedence : Obligations.ConfigPrecedence := by
  unfold Obligations.ConfigPrecedence
  intro par b path hnamed hdefault
  have hpath : b.conf.getD defaultConfPath = path := by
    cases hconf : b.conf with
    | some p => exact (hnamed p hconf).symm
    | none =>
      have hascii : asciiText "/etc/halpid/halpid.conf" = defaultConfPath := by decide
      exact (hascii ▸ hdefault hconf).symm
  refine ⟨fun hunreadable => ?unreadable, fun file hfile c => ?resolved⟩
  case unreadable => rw [configOf, confFileOf_of_lookup hpath hunreadable]
  case resolved =>
    have hread : confFileOf b = .values file ∨ confFileOf b = .absent ∧ file = RawCfg.empty := by
      obtain hvalues | ⟨hmissing | habsent, hempty⟩ := hfile
      · exact .inl (confFileOf_of_lookup hpath hvalues)
      · exact .inr ⟨confFileOf_of_missing hpath hmissing, hempty⟩
      · exact .inr ⟨confFileOf_of_lookup hpath habsent, hempty⟩
    have hsocket : asciiText "/run/halpid/halpid.sock" = defaultSocket := by decide
    have hgroup : asciiText "adm" = defaultGroup := by decide
    rw [configOf_ok_iff hread, cfgValid_iff, applyGiven_givenFields_ok_iff, hsocket, hgroup]
    simp only [and_assoc]
    refine and_congr_right fun hvl => and_congr_right fun hvu => and_congr_right fun htl => and_congr_right fun htu =>
      and_congr_right fun hal => and_congr_right fun hau => ?_
    rw [resolveField_firstOf_iff fun _ => asNat_eq_some_iff,
      resolveField_firstOf_iff fun _ => asAddress_eq_some_iff hal hau,
      resolveField_firstOf_iff fun _ => asRatIn_eq_some_iff hvl hvu,
      resolveField_firstOf_iff fun _ => asRatIn_eq_some_iff htl htu]
    rw [resolveField_firstOf_iff fun _ => asText_eq_some_iff, resolveField_firstOf_iff fun _ => asText_eq_some_iff,
      resolveField_firstOf_iff fun _ => asText_eq_some_iff]
    simp only [and_assoc, Cfg.builtIn]

end Sys2Proof.Machine
end

section
/-! PROOFS. What can happen before the agents start: time passes, signals land, and transactions show their events. -/

namespace Sys2Proof.Machine

/-! Suspensions of a block not started (60_exceptions R605). -/

/-- No agent can run but the one that runs STARTUP. -/
structure State.down (s : State) : Prop where
  up : s.up = false
  reqs : s.reqs = []
  replies : s.replies = []

section Down

variable {s : State}

theorem State.down.supDue (h : s.down) : s.supDue = none := by
  simp [State.supDue, h.up]

theorem State.down.passTo (h : s.down) (till : Nat) : s.passTo till = { s with now := till } := s.elapse_quiet till h.supDue

/-- Only a signal lands: there is no control port, no request and no reply yet (log 18). -/
theorem State.down.act (h : s.down) (a : EnvAct) :
    s.act a = s ∨ ∃ k, s.act a = { s.emit (.signal k) with sigCancel := true, pcSig := .signalled } := by
  cases a with
  | signal k => exact .inr ⟨k, rfl⟩
  | request w => exact .inl (by simp [State.act, h.up])
  | serve k => exact .inl (by simp [State.act, State.serve, h.replies, h.reqs])
  | wake => exact .inl (by simp [State.act, h.supDue])

/-- What a block not started keeps as time passes and signals land, it keeps in a suspension. -/
theorem State.elapse_of_down {P : State → Prop} (hdown : ∀ s, P s → s.down) (htime : ∀ s n, P s → P { s with now := n })
    (hsignal : ∀ s k, P s → P { s.emit (.signal k) with sigCancel := true, pcSig := .signalled }) (h : P s) (till : Nat)
    (l : List Arrival) : P (s.elapse till l) := by
  induction l generalizing s with
  | nil =>
    have hpass := (hdown s h).passTo till
    unfold State.elapse
    rw [hpass]
    exact htime s till h
  | cons a l ih =>
    have hpass := (hdown s h).passTo (min (s.now + a.after) till)
    unfold State.elapse
    rw [hpass]
    have hthere := htime s (min (s.now + a.after) till) h
    obtain hact | ⟨k, hact⟩ := (hdown _ hthere).act a.act
    · rw [hact]
      exact ih hthere
    · rw [hact]
      exact ih (hsignal _ k hthere)

end Down

/-! Transactions before the agents start. -/

/-- An event that STARTUP shows and that is neither a signal nor a write that succeeded. -/
def Event.isPrelude : Event → Bool
  | .signal _ => false
  | .write _ _ (.ok _) => false
  | _ => true

/-- `P` is kept by suspensions, by the draws, by what becomes of the companion, and by the events that are no signal and no write
that succeeded. -/
structure Early (P : State → Prop) : Prop where
  elapse : ∀ {s : State} {till : Nat} {l : List Arrival}, s.now ≤ till → P s → P (s.elapse till l)
  emits : ∀ {s : State} {e : Event}, e.isPrelude = true → P s → P (s.emit e)
  ports : ∀ {s : State} {p : Inputs} {c : Companion}, P s → P { s with inp := p, comp := c }

/-- An event once shown stays in the trace. -/
theorem early_shown (E : Event → Prop) : Early fun s => ∃ e ∈ s.trace.map Prod.snd, E e where
  elapse := by
    rintro s till l hle ⟨e, he, hE⟩
    obtain ⟨es, htrace⟩ := (s.ran_elapse till l hle).trace
    exact ⟨e, by rw [htrace, List.map_append]; exact List.mem_append_left _ he, hE⟩
  emits := by
    rintro s e - ⟨e', he, hE⟩
    exact ⟨e', by simp [he], hE⟩
  ports := id

theorem Early.and {P Q : State → Prop} (hP : Early P) (hQ : Early Q) : Early fun s => P s ∧ Q s :=
  ⟨fun hle h => ⟨hP.elapse hle h.1, hQ.elapse hle h.2⟩, fun he h => ⟨hP.emits he h.1, hQ.emits he h.2⟩,
    fun h => ⟨hP.ports h.1, hQ.ports h.2⟩⟩

section Transactions

variable {α : Type} {F : Prop} {P : State → Prop} {R : Err → State → Prop} {W : State → Prop}

theorem Early.suspend (h : Early P) (ms : Nat) (p : Susp) : Meets F P (suspend ms p) (fun _ => P) R W := by
  intro s hs
  obtain ⟨till, -, -, e⟩ | e := suspend_cases ms p s
  · rw [e]
    trivial
  · rw [e]
    exact h.elapse (Nat.le_add_right _ _) hs

theorem Early.draw (h : Early P) {x : Op α} (hx : Draws x) : Meets F P x (fun _ => P) R W := hx.meets fun _ _ _ hs => h.ports hs

theorem Early.emit (h : Early P) {e : Event} (he : e.isPrelude = true) : Meets F P (emit e) (fun _ => P) R W :=
  fun _ hs => h.emits he hs

theorem Early.sleep (h : Early P) (ms : Nat) : Meets F P (sleep ms) (fun _ => P) R W :=
  meets_bind (h.emit rfl) fun _ => meets_bind (h.draw draws_popSleep) fun _ => h.suspend _ _

/-- A transaction whose failed attempts keep `P` ends with its last attempt's success, or raises in `P`. -/
theorem Early.attempt4 (h : Early P) {x : Op (Except Failure α)} {Q : α → State → Prop}
    (hx : Meets True P x (fun res u => (∀ v, res = .ok v → Q v u) ∧ ∀ f, res = .error f → P u) (fun _ _ => False)
      fun _ => False) :
    Meets True P (attempt4 x) Q (fun e u => (∃ f, e = .transport f) ∧ P u) fun _ => False :=
  (meets_retryLoop (P := fun _ => P) (Q := fun _ => Q)
    (fun _ => hx.mono
      (fun res _ ⟨hok, hfail⟩ => by cases res with | ok v => exact hok v rfl | error f => exact hfail f rfl)
      (fun _ _ => id) fun _ => id)
    (fun _ => h.sleep _) retryMax []).mono
    (fun _ _ ⟨_, _, hQ⟩ => hQ) (fun _ _ ⟨he, _, _, _, hP⟩ => ⟨he, hP⟩) fun _ => id

theorem refRead_length (c : RefCompanion) (r : Byte) (n : Nat) (resp : BusResp) : (refRead c r n resp).1.length = n := by
  have hfill (bs : List Byte) : (refFill r n bs).length = n := by simp [refFill]
  unfold refRead
  split
  · next h => simp [h.2]
  · split
    · next h => simp [h.2, be16]
    · split
      · next h => simp_all
      · split
        · split
          · assumption
          · exact hfill _
        · exact hfill _

theorem oracleRead_length {m : Memory} {r : Byte} {n : Nat} {resp : BusResp} {bs : List Byte}
    (h : oracleRead m r n resp = .ok bs) : bs.length = n := by
  cases resp with
  | device e => cases h
  | short =>
    simp only [oracleRead] at h
    split at h
    · next hn =>
      cases h
      exact hn.symm
    · cases h
  | data ds =>
    simp only [oracleRead] at h
    split at h
    · cases h
    · next hlen =>
      have htake : (ds.take n).length = n := List.length_take_of_le (Nat.le_of_not_lt hlen)
      split at h
      · next hrail =>
        simp only [Bool.and_eq_true, beq_iff_eq] at hrail
        split at h
        · cases h
          exact hrail.2.symm
        · cases h
          exact htake
      · cases h
        exact htake

/-- A read that succeeds gives as many bytes as it asked for (00_scope R8). -/
theorem answerRead_length {c : Companion} {any : Bool} {now n : Nat} {r : Byte} {resp : BusResp} {bs : List Byte}
    (h : (c.answerRead any now r n resp).1 = .ok bs) : bs.length = n := by
  unfold Companion.answerRead at h
  split at h
  · cases ho : oracleRead c.mem r n resp with
    | ok ds =>
      rw [ho] at h
      cases h
      exact oracleRead_length ho
    | error f =>
      rw [ho] at h
      cases h
  · cases h
    exact refRead_length _ _ _ _

/-- A read attempt keeps `P`, and one that succeeds is in the trace with its bytes. -/
theorem Early.memRead (h : Early P) (r : Byte) (n : Nat) :
    Meets True P (memRead r n)
      (fun res u => (∀ bs, res = .ok bs → P u ∧ bs.length = n ∧ .read r n (.ok bs) ∈ u.trace.map Prod.snd) ∧
        ∀ f, res = .error f → P u) R W := by
  refine meets_bind meets_guardBus fun _ => meets_bind (h.draw draws_popBus) fun _ => meets_bind (h.suspend _ _) fun _ => ?_
  intro s hs
  rw [Op.bind_ok (Op.get_run s)]
  have hkept (res : Except Failure (List Byte)) (c : Companion) : P { s.emit (.read r n res) with comp := c } :=
    h.emits (s := { s with comp := c }) (e := .read r n res) rfl (h.ports hs)
  exact ⟨fun bs hbs => ⟨hkept _ _, answerRead_length hbs, by simp [← hbs]⟩, fun _ _ => hkept _ _⟩

/-- A write attempt that fails keeps `P`; one that succeeds is shown at the end of the trace, stamped with its end. -/
theorem Early.memWrite (h : Early P) (r : Byte) (data : List Byte) :
    Meets True P (memWrite r data)
      (fun res u => (∀ v, res = .ok v → ∃ u0 c, P u0 ∧ u = { u0.emit (.write r data (.ok ())) with comp := c }) ∧
        ∀ f, res = .error f → P u) R W := by
  refine meets_bind meets_guardBus fun _ => meets_bind (h.draw draws_popBus) fun d =>
    meets_bind (h.suspend _ _).onCut fun _ => ?_
  intro s hs
  rw [Op.bind_ok (Op.get_run s)]
  generalize s.comp.answerWrite s.par.wdAnyTraffic s.now r data d.resp = answer
  obtain ⟨res, c⟩ := answer
  refine ⟨?_, ?_⟩
  · rintro ⟨⟩ rfl
    exact ⟨s, c, hs, rfl⟩
  · rintro f rfl
    exact h.emits (s := { s with comp := c }) (e := .write r data (.error f)) rfl (h.ports hs)

/-- The event is the read of a firmware version whose major number is `maj` (41_register_ops R251). -/
def Event.showsMajor (maj : Byte) (e : Event) : Prop := ∃ min pat alpha, e = .read 0x04 4 (.ok [maj, min, pat, alpha])

theorem Early.rdFwver (h : Early P) : Meets True P rdFwver
    (fun v u => P u ∧ ∃ e ∈ u.trace.map Prod.snd, e.showsMajor v.major) (fun e u => (∃ f, e = .transport f) ∧ P u)
    fun _ => False := by
  refine meets_bind (h.attempt4 (h.memRead 0x04 4)) fun bs => meets_pure ?_
  rintro u ⟨hu, hlen, hread⟩
  match bs, hlen with
  | [maj, min, pat, alpha], _ => exact ⟨hu, _, hread, min, pat, alpha, rfl⟩

theorem Early.wdArm (h : Early P) : Meets True P wdArm
    (fun _ u => ∃ u0 c, P u0 ∧ u = { u0.emit (.write 0x10 [0x03, 0xE8] (.ok ())) with comp := c })
    (fun e u => (∃ f, e = .transport f) ∧ P u) fun _ => False :=
  h.attempt4 (h.memWrite 0x10 [0x03, 0xE8])

/-- `attemptTransport` lets through every early end that is no raised error. -/
theorem attemptTransport_error {x : Op α} {s t : State} {e : Exc} (h : x s = .error e t) (hr : ∀ r, e ≠ .raise r) :
    attemptTransport x s = .error e t :=
  Op.bind_error (attempt_error h hr)

end Transactions

end Sys2Proof.Machine
end

section
/-! PROOFS. The registers that STARTUP leaves, from the block before reset with any inputs (O38). -/

namespace Sys2Proof.Machine

/-- The registers of `s` are those of `r`, but for what the ports write and for the signal input, which has latched exactly what
landed; and the watchdog was not armed yet. -/
structure State.booting (r s : State) : Prop where
  frame : s = { r with
    sigCancel := s.sigCancel, pcSig := s.pcSig, now := s.now, comp := s.comp, inp := s.inp, trace := s.trace }
  heard : s.sigCancel = false ↔ ∀ k, .signal k ∉ s.trace.map Prod.snd
  unarmed : .write 0x10 [0x03, 0xE8] (.ok ()) ∉ s.trace.map Prod.snd

section Booting

variable {r s : State}

theorem State.booting.down (h : r.booting s) (hr : r.down) : s.down := by
  obtain ⟨hup, hreqs, hreplies⟩ := hr
  constructor
  all_goals rw [h.frame]
  all_goals assumption

theorem State.booting.emit {e : Event} (h : r.booting s) (he : e.isPrelude = true) : r.booting (s.emit e) where
  frame := by
    unfold State.emit
    rw [h.frame]
  heard := by
    rw [State.emit_sigCancel, h.heard]
    cases e <;> simp_all [Event.isPrelude]
  unarmed := by
    have hnew : e ≠ .write 0x10 [0x03, 0xE8] (.ok ()) := by
      rintro rfl
      cases he
    simpa using ⟨by simpa using h.unarmed, hnew.symm⟩

theorem State.booting.signal (h : r.booting s) (k : SignalKind) :
    r.booting { s.emit (.signal k) with sigCancel := true, pcSig := .signalled } where
  frame := by
    unfold State.emit
    rw [h.frame]
  heard := by simpa using ⟨k, fun _ => rfl⟩
  unarmed := by simpa using h.unarmed

theorem early_booting (hr : r.down) : Early r.booting where
  elapse _ h := State.elapse_of_down (fun _ h => h.down hr) (fun _ _ h => ⟨by rw [h.frame], h.heard, h.unarmed⟩)
    (fun _ k h => h.signal k) h _ _
  emits he h := h.emit he
  ports h := ⟨by rw [h.frame], h.heard, h.unarmed⟩

end Booting

/-! The parts of STARTUP. -/

/-- `t` is `u` with the agents started, after an arm whose success was shown at the end of the trace or after one that failed
without being fatal (70_reset R702, R706). -/
def State.starts (u t : State) : Prop :=
  (∃ c, t = { { u.emit (.write 0x10 [0x03, 0xE8] (.ok ())) with
      comp := c, lastFed := some u.now, fsm := .ok }.dropLock with up := true, pcSup := .init, pcSig := .idle }) ∨
    t = { { u with fsm := .start }.dropLock with up := true, pcSup := .init, pcSig := .idle }

/-- The block before reset, under its resolved configuration (70_reset R700). -/
def bootConfigured (par : Params) (c : Cfg) : State := { State.initial par with cfg := c }

/-- The block with its bus open (70_reset R700). -/
def bootOpened (par : Params) (c : Cfg) : State :=
  { bootConfigured par c with busOpen := true, handle := some ⟨c.busIndex, c.deviceAddress⟩ }

/-- The block that reads the version under the lock (70_reset R700, log 39). -/
def bootHeld (par : Params) (c : Cfg) : State := { bootOpened par c with holder := some .supervisor }

/-- The block once the version's major number was read (70_reset R701). -/
def bootDialect (par : Params) (c : Cfg) (maj : Byte) : State := { bootHeld par c with dialect := some (dialectOf maj) }

/-- STARTUP started the agents under `c`, in a dialect that the version in the trace selects. -/
def bootStarts (par : Params) (c : Cfg) (t : State) : Prop :=
  ∃ maj u, ((bootDialect par c maj).booting u ∧ ∃ e ∈ u.trace.map Prod.snd, e.showsMajor maj) ∧ u.starts t

section Parts

variable {r s : State} {par : Params} {c : Cfg} {maj : Byte} {R : Err → State → Prop}

/-- What an exit keeps of a block not started. -/
def downWatch : Watch := ⟨fun s => s.up = false, False, False, False⟩

theorem downWatch_sound : downWatch.Sound :=
  ⟨⟨fun h l => by cases l <;> exact h, id, fun h _ => h, fun _ h => h⟩, False.elim⟩

/-- An exit does not start the agents (42_power_fsm R331). -/
theorem meets_exitSeq_down (code : Fin 3) :
    Meets True (fun s => s.up = false) (exitSeq code) (fun _ t => t.up = false) R fun t => t.up = false := by
  intro s hs
  have hends := downWatch_sound.exitSeq (R := R) nofun (fun _ h => h) code s ⟨hs, False.elim, False.elim⟩
  rw [show (¬downWatch.safe) = True from not_false_eq_true] at hends
  refine hends.mono ?_ (fun _ _ => id) fun t ⟨_, hup, _⟩ => hup
  rintro _ _ ⟨u, code, ⟨hup, -⟩, rfl⟩
  exact hup

theorem State.booting.up_eq (h : r.booting s) : s.up = r.up := by rw [h.frame]

theorem State.booting.holds (h : r.booting s) (hr : r.holder = some r.cur) : s.holder = some s.cur := by
  rw [h.frame]
  exact hr

/-- Agents that did not start are none that did. -/
theorem Ends.of_down {res : EStateM.Result Exc State Unit} {Q : Unit → State → Prop}
    (h : Ends True (fun _ t => t.up = false) R (fun t => t.up = false) res) :
    Ends True (fun a t => t.up = true → Q a t) R (fun t => t.up = false) res :=
  h.mono (fun _ _ hdown hup => by simp [hdown] at hup) (fun _ _ => id) fun _ => id

theorem meets_firstArm_boot : Meets True
    (fun s => (bootDialect par c maj).booting s ∧ ∃ e ∈ s.trace.map Prod.snd, e.showsMajor maj) firstArm
    (fun _ t => t.up = true → bootStarts par c t) R fun t => t.up = false := by
  intro s hs
  have hearly := (early_booting (r := bootDialect par c maj) ⟨rfl, rfl, rfl⟩).and (early_shown (Event.showsMajor maj))
  have hend := hearly.wdArm s hs
  cases hrun : wdArm s with
  | ok a v =>
    rw [hrun] at hend
    obtain ⟨u, comp, hu, rfl⟩ := hend
    have hholds := hu.1.holds rfl
    rw [firstArm_of_success hrun hholds]
    exact fun _ => ⟨maj, u, hu, .inl ⟨comp, rfl⟩⟩
  | error e u =>
    rw [hrun] at hend
    cases e with
    | raise e =>
      obtain ⟨⟨f, rfl⟩, hu⟩ := hend
      have hholds := hu.1.holds rfl
      cases hf : transportFatal f with
      | true =>
        rw [firstArm_of_fatal hrun hholds hf]
        exact (meets_exitSeq_down 1 u.dropLock hu.1.up_eq).of_down
      | false =>
        rw [firstArm_of_transient hrun hholds hf]
        exact fun _ => ⟨maj, u, hu, .inr rfl⟩
    | wait => exact hend.elim
    | cut | stop =>
      have hstop : firstArm s = .error _ u := Op.bind_error (attemptTransport_error hrun nofun)
      rw [hstop]
      trivial

theorem meets_startOnBus_boot : Meets True (bootOpened par c).booting startOnBus
    (fun _ t => t.up = true → bootStarts par c t) R fun t => t.up = false := by
  intro s hs
  have hfree : s.canLock := by
    unfold State.canLock
    rw [hs.frame]
    rfl
  have hcur : s.cur = .supervisor := by
    rw [hs.frame]
    rfl
  have htaken : (bootHeld par c).booting s.takeLock := by
    obtain ⟨hframe, hheard, hunarmed⟩ := hs.emit (e := .lock s.cur) rfl
    refine ⟨?_, hheard, hunarmed⟩
    unfold State.takeLock
    rw [hframe, hcur]
    rfl
  have hend := (early_booting (r := bootHeld par c) ⟨rfl, rfl, rfl⟩).rdFwver _ htaken
  cases hrun : rdFwver s.takeLock with
  | ok v u =>
    rw [hrun] at hend
    obtain ⟨hu, hshown⟩ := hend
    rw [startOnBus_of_version hfree hrun]
    exact meets_firstArm_boot _ ⟨⟨by rw [hu.frame]; rfl, hu.heard, hu.unarmed⟩, hshown⟩
  | error e u =>
    rw [hrun] at hend
    cases e with
    | raise e =>
      obtain ⟨⟨f, rfl⟩, hu⟩ := hend
      rw [startOnBus_of_failure hfree hrun (hu.holds rfl)]
      exact (meets_exitSeq_down 1 { u.dropLock with supErr := some (.startupReadFailed f) } hu.up_eq).of_down
    | wait => exact hend.elim
    | cut | stop =>
      have hstop : startOnBus s = .error _ u :=
        (Op.bind_ok (acquire_free _ hfree)).trans (Op.bind_error (attemptTransport_error hrun nofun))
      rw [hstop]
      trivial

theorem meets_exitBeforeBus_down {Q : Unit → State → Prop} {W : State → Prop} (code : Fin 3) (e : Err) :
    Meets True (fun s => s.up = false) (exitBeforeBus code e) (fun a t => t.up = true → Q a t) R W :=
  meets_modify fun _ hs hup => by
    have hdown : false = true := hs.symm.trans hup
    cases hdown

theorem meets_openBus_boot : Meets True (State.initial par).booting (openBus c)
    (fun _ t => t.up = true → bootStarts par c t) R fun t => t.up = false := by
  have hearly := early_booting (r := bootConfigured par c) ⟨rfl, rfl, rfl⟩
  refine meets_bind (Q := fun _ => (bootConfigured par c).booting) (meets_modify fun s hs => ?_) fun _ =>
    meets_bind (hearly.draw draws_popOpen) fun o => meets_bind (hearly.suspend _ _) fun _ =>
      meets_bind (hearly.emit rfl) fun _ => ?_
  · exact ⟨by rw [hs.frame]; rfl, hs.heard, hs.unarmed⟩
  · split
    · exact (meets_exitBeforeBus_down _ _).pre fun _ hs => hs.up_eq
    · exact meets_bind (meets_modify fun s hs => ⟨by rw [hs.frame]; rfl, hs.heard, hs.unarmed⟩) fun _ =>
        meets_startOnBus_boot

/-- The boot input is the next one settled, if one is. -/
theorem meets_popBoot {inp : Inputs} : Meets True (fun s => (State.initial par).booting s ∧ s.inp = inp) popBoot
    (fun b s => (State.initial par).booting s ∧ ∀ b' bs, inp.boot = b' :: bs → b' = b) R fun t => t.up = false := by
  rintro s ⟨hs, rfl⟩
  unfold popBoot
  split
  · next b bs hb => exact ⟨⟨by rw [hs.frame], hs.heard, hs.unarmed⟩, fun b' bs' h => by cases hb.symm.trans h; rfl⟩
  · next hb => exact ⟨⟨by rw [hs.frame], hs.heard, hs.unarmed⟩, fun b' bs' h => by cases hb.symm.trans h⟩

theorem meets_startup_boot {inp : Inputs} : Meets True (fun s => (State.initial par).booting s ∧ s.inp = inp) startup
    (fun _ t => t.up = true → ∃ b c, (∀ b' bs, inp.boot = b' :: bs → b' = b) ∧ configOf par b = .ok c ∧ bootStarts par c t)
    R fun t => t.up = false := by
  have hguard : Meets True (fun s => (State.initial par).booting s ∧ s.inp = inp) guardReset
      (fun _ s => (State.initial par).booting s ∧ s.inp = inp) R fun t => t.up = false :=
    meets_get_bind fun u hu => meets_ite (fun _ => meets_stop fun _ _ => trivial) fun _ => meets_pure fun _ h => h ▸ hu
  refine meets_bind hguard fun _ => meets_bind meets_popBoot fun b => meets_get_bind fun u ⟨hu, hboot⟩ => ?_
  have hpar : u.par = par := by
    rw [hu.frame]
    rfl
  split
  · exact (meets_exitBeforeBus_down _ _).pre fun _ h => h ▸ hu.up_eq
  · next c hc =>
    rw [hpar] at hc
    exact (meets_openBus_boot.pre fun _ h => h ▸ hu).mono
      (fun _ t ht hup => ⟨b, c, hboot, hc, ht hup⟩) (fun _ _ => id) fun _ => id

end Parts

/-! The state at the end. -/

theorem bootStarts_armed {par : Params} {c : Cfg} {t : State} (h : bootStarts par c t) :
    (t.fsm = .ok ∧ ∃ at_, t.lastFed = some at_ ∧ (at_, .write 0x10 [0x03, 0xE8] (.ok ())) ∈ t.trace) ∨
      (t.fsm = .start ∧ t.lastFed = none ∧ .write 0x10 [0x03, 0xE8] (.ok ()) ∉ t.trace.map Prod.snd) := by
  obtain ⟨maj, u, ⟨hu, -⟩, ⟨comp, rfl⟩ | rfl⟩ := h
  · exact .inl ⟨rfl, u.now, rfl, by simp⟩
  · refine .inr ⟨rfl, ?_, by simpa using hu.unarmed⟩
    have hfed : u.lastFed = none := by
      rw [hu.frame]
      rfl
    exact hfed

theorem bootStarts_heard {par : Params} {c : Cfg} {t : State} (h : bootStarts par c t) :
    t.sigCancel = false ↔ ∀ k, .signal k ∉ t.trace.map Prod.snd := by
  obtain ⟨maj, u, ⟨hu, -⟩, ⟨comp, rfl⟩ | rfl⟩ := h
  all_goals simpa using hu.heard

theorem State.starts.trace {u t : State} (h : u.starts t) : ∃ es, t.trace = u.trace ++ es := by
  obtain ⟨comp, rfl⟩ | rfl := h
  · exact ⟨[_, _], List.append_assoc ..⟩
  · exact ⟨[_], rfl⟩

theorem bootStarts_version {par : Params} {c : Cfg} {t : State} (h : bootStarts par c t) :
    ∃ maj min pat alpha, .read 0x04 4 (.ok [maj, min, pat, alpha]) ∈ t.trace.map Prod.snd ∧
      t.dialect = some (if maj.toNat ≤ 1 then .one else .two) := by
  obtain ⟨maj, u, ⟨hu, _, hshown, min, pat, alpha, rfl⟩, hstarts⟩ := h
  obtain ⟨es, htrace⟩ := hstarts.trace
  refine ⟨maj, min, pat, alpha, ?_, ?_⟩
  · rw [htrace, List.map_append]
    exact List.mem_append_left _ hshown
  · have hdialect : u.dialect = some (dialectOf maj) := by
      rw [hu.frame]
      rfl
    obtain ⟨comp, rfl⟩ | rfl := hstarts <;> exact hdialect

/-- Every other register has its value of 70_reset R706. -/
theorem bootStarts_registers {par : Params} {c : Cfg} {t : State} (h : bootStarts par c t) :
    ∃ fsm lastFed dialect sigCancel now comp inp trace, t = { State.initial par with
      cfg := c, busOpen := true, handle := some ⟨c.busIndex, c.deviceAddress⟩, up := true, fsm := fsm, lastFed := lastFed,
      dialect := dialect, sigCancel := sigCancel, now := now, comp := comp, inp := inp, trace := trace } := by
  obtain ⟨maj, u, ⟨hu, -⟩, ⟨comp, rfl⟩ | rfl⟩ := h
  all_goals
    rw [hu.frame]
    exact ⟨_, _, _, _, _, _, _, _, rfl⟩

/-- Settles O38: STARTUP is followed with the registers it has written so far, and what it leaves is read off. -/
theorem startupLeaves : Obligations.StartupLeaves := by
  unfold Obligations.StartupLeaves
  intro par inp now t hexec hup
  have hs : (State.initial par).booting { State.initial par with inp := inp, now := now } :=
    ⟨rfl, by simp [State.initial], by simp [State.initial]⟩
  have hend := Meets.doing (meets_startup_boot (par := par) (inp := inp) (R := fun _ _ => False)) _ ⟨hs, rfl⟩
  obtain ⟨r, u, hx, rfl⟩ | ⟨e, u, hx, -⟩ | hx | ⟨u, -, rfl⟩ := finish_next hexec
  case inr.inr.inr => cases hup
  all_goals rw [hx] at hend
  case inr.inl => exact hend.elim
  case inr.inr.inl =>
    have hdown : t.up = false := hend
    simp [hdown] at hup
  case inl =>
    obtain ⟨b, c, hboot, hc, hstarts⟩ := hend hup
    have hcfg : cfgValid c = true := Watch.configOf_valid hc
    have harmed := bootStarts_armed hstarts
    have hversion := bootStarts_version hstarts
    have hheard := bootStarts_heard hstarts
    obtain ⟨fsm, lastFed, dialect, sigCancel, now, comp, inp, trace, rfl⟩ := bootStarts_registers hstarts
    exact ⟨fun b' bs hb => hboot b' bs hb ▸ hc, hcfg, harmed, hversion, rfl, rfl, rfl, rfl, rfl, rfl, rfl, hheard, rfl, rfl,
      rfl, rfl, rfl, rfl, rfl, rfl⟩

end Sys2Proof.Machine
end

section
/-! PROOFS. What runs next (O4): the draw among what can run, and each run followed to the operation that it is. -/

namespace Sys2Proof.Machine

section Steps

variable {s u : State} {n w till : Nat} {ns : List Nat}

/-! The step of a block with nothing on the port. -/

theorem step_exited (h : s.pcSup = .exited) : step s = .next s := if_pos h

theorem step_agent (h : s.pcSup ≠ .exited) (hport : s.opPort = []) : step s = agentStep s := by
  unfold step
  rw [if_neg h, hport]

theorem step_down (h : s.pcSup ≠ .exited) (hport : s.opPort = []) (hup : s.up = false) : step s = exec .startup s := by
  rw [step_agent h hport]
  simp [agentStep, hup]

theorem step_up (h : s.pcSup ≠ .exited) (hport : s.opPort = []) (hup : s.up = true) : step s = schedule s :=
  (step_agent h hport).trans (if_pos hup)

/-- The draw chooses among what can run. -/
theorem schedule_draws {k : Task} {ks : List Task} (harm : s.arm = s) (hn : s.inp.agent = n :: ns) (ht : s.tasks = k :: ks) :
    schedule s = runTask ((k :: ks).getD (n % (ks.length + 1)) k) { s with inp := { s.inp with agent := ns } } := by
  have hpop : popAgent s = .ok n { s with inp := { s.inp with agent := ns } } := by simp [popAgent, hn]
  unfold schedule
  rw [harm, ht, hpop]

/-- The one thing that can run runs. -/
theorem schedule_only {k : Task} (harm : s.arm = s) (hn : s.inp.agent = n :: ns) (ht : s.tasks = [k]) :
    schedule s = runTask k { s with inp := { s.inp with agent := ns } } := by
  rw [schedule_draws harm hn ht]
  simp [Nat.mod_one]

theorem State.armed_of_wake (h : s.supWake = some w) : s.arm = s := by simp [State.arm, h]

theorem State.armed_of_awake (h : s.pcSup ≠ .sleeping) : s.arm = s := by simp [State.arm, h]

/-- The supervisor begins no tick now: it waits for the lock or sleeps before its wake time (42_power_fsm R300). -/
def State.supRests (s : State) : Prop :=
  s.pcSup = .waitLock ∨ s.pcSup = .exiting ∨
    (s.pcSup = .sleeping ∧ s.sigCancel = false ∧ ∃ w, s.supWake = some w ∧ s.now < w)

theorem State.supRests.arm (h : s.supRests) : s.arm = s := by
  obtain h | h | ⟨-, -, w, hw, -⟩ := h
  · exact State.armed_of_awake (by simp [h])
  · exact State.armed_of_awake (by simp [h])
  · exact State.armed_of_wake hw

theorem State.supRests.not_ready (h : s.supRests) : s.supReady = false := by
  obtain h | h | ⟨h, hsig, w, hw, hnow⟩ := h <;> simp [State.supReady, *]

/-! What can run. -/

theorem State.ipc_nil (hreqs : s.reqs.filter Request.arrived = []) (hreplies : s.replies = []) : s.ipc = [] := by
  simp [State.ipc, hreqs, hreplies]

theorem State.supRests.due_nil (h : s.supRests) (hwait : s.waiters = []) : s.due = [] := by
  simp [State.due, h.not_ready, hwait]

theorem State.tasks_of_due (h : s.ipc = []) : s.tasks = s.due := by simp [State.tasks, h]

/-- While the control port is read or written and nobody else runs, time may pass first (log 16). -/
theorem State.tasks_of_ipc (hd : s.due = []) (h : s.ipc ≠ []) : s.tasks = s.ipc ++ [.pass] := by
  simp [State.tasks, hd, h]

theorem State.tasks_tick (hreqs : s.reqs.filter Request.arrived = []) (hwait : s.waiters = []) (hreplies : s.replies = [])
    (h : s.supReady = true) : s.tasks = [.tick] := by
  rw [State.tasks_of_due (State.ipc_nil hreqs hreplies)]
  simp [State.due, h, hwait]

theorem State.supRests.tasks_resume (h : s.supRests) {x : Waiter} (hreqs : s.reqs.filter Request.arrived = [])
    (hwait : s.waiters = [x]) (hreplies : s.replies = []) (hfree : s.holder = none) : s.tasks = [.resume x] := by
  rw [State.tasks_of_due (State.ipc_nil hreqs hreplies)]
  simp [State.due, h.not_ready, hwait, hfree]

/-- A read or write of the control port, drawn against time that passes. -/
theorem schedule_ipc {k : Task} (h : s.supRests) (hwait : s.waiters = []) (hipc : s.ipc = [k]) (hn : s.inp.agent = n :: ns)
    (he : n % 2 = 0) : schedule s = runTask k { s with inp := { s.inp with agent := ns } } := by
  have htasks : s.tasks = [k, .pass] := by
    rw [State.tasks_of_ipc (h.due_nil hwait) (by simp [hipc]), hipc]
    rfl
  rw [schedule_draws h.arm hn htasks]
  simp [he]

/-- The last choice is that time passes. -/
theorem schedule_pass (h : s.supRests) (hwait : s.waiters = []) (hpos : 0 < s.ipc.length) (hn : s.inp.agent = n :: ns)
    (he : n % (s.ipc.length + 1) = s.ipc.length) :
    schedule s = runIdle { s with inp := { s.inp with agent := ns } } := by
  have hne : s.ipc ≠ [] := List.ne_nil_of_length_pos hpos
  have htasks := State.tasks_of_ipc (h.due_nil hwait) hne
  obtain ⟨k, ks, hipc⟩ := List.exists_cons_of_ne_nil hne
  rw [hipc, List.cons_append] at htasks
  rw [hipc, List.length_cons] at he
  rw [schedule_draws h.arm hn htasks, List.length_append, List.length_singleton, he]
  simp [runTask]

/-! Requests that start (45_control R450). -/

/-- The request of an id is the only one that a search for it can find. -/
theorem State.find_of_id {f : Request → Bool} {q : Request} (hinv : s.requestInv) (hq : q ∈ s.reqs) (hf : f q = true)
    (hid : ∀ p, f p = true → p.id = q.id) : s.reqs.find? f = some q := by
  cases hfind : s.reqs.find? f with
  | none => exact absurd hf (List.find?_eq_none.mp hfind q hq)
  | some p => rw [State.eq_of_id_eq hinv (List.mem_of_find?_eq_some hfind) hq (hid p (List.find?_some hfind))]

theorem runRequest_known {q : Request} {i : Instr} (hinv : s.requestInv) (hq : q ∈ s.reqs)
    (hi : decodeRequest q.word = some i) :
    runRequest q.id s = exec i { s.markRunning q.id with cur := .ctrl q.id } := by
  unfold runRequest
  rw [State.find_of_id hinv hq (by simp) (by simp)]
  simp only [hi]

/-- A word that is no request is refused (30_encoding R130). -/
theorem runRequest_unknown {q : Request} (hinv : s.requestInv) (hq : q ∈ s.reqs) (hi : decodeRequest q.word = none) :
    runRequest q.id s = .next ({ s.markRunning q.id with cur := .ctrl q.id }.answered
      (.error (.badRequest (.request q.word)))) := by
  unfold runRequest
  rw [State.find_of_id hinv hq (by simp) (by simp)]
  simp only [hi]
  exact replying_ok rfl

/-! Agents that go on from `Lock()` (10_state R30). -/

theorem runWaiter_only {x : Waiter} (h : s.waiters = [x]) :
    runWaiter x s = finish (resume x.hold) { s with cur := x.agent, waiters := [] } := by
  simp [runWaiter, h]

/-- A run of a request, seen through another. -/
theorem finish_replying_congr {x y : Op Reply} {t : State} (h : x s = y t) : finish (replying x) s = finish (replying y) t := by
  unfold finish replying
  simp only [bind, EStateM.bind, h]

theorem resume_getUsb {p : Int} (hp : portLegal p = true) : finish (resume (.getUsb p)) u = exec (.cGetUsb p) u :=
  finish_replying_congr (orImmediate_none (by simp [immediateReply, hp])).symm

theorem resume_setUsb {p : Int} (hp : portLegal p = true) (on : Bool) :
    finish (resume (.setUsb p on)) u = exec (.cSetUsb p on) u :=
  finish_replying_congr (orImmediate_none (by simp [immediateReply, hp])).symm

/-- The seconds a delay gave are the ones its write takes. -/
theorem resume_standby {d : Nat} (hd : d < 2 ^ 32) : finish (resume (.standby d)) u = exec (.cStandby (.delay d)) u := by
  have hclamp : clampDelay d = d := by
    rw [clampDelay_eq]
    omega
  refine finish_replying_congr (Eq.symm ?_)
  rw [orImmediate_none (by simp [immediateReply])]
  simp only [cStandby, hclamp]

theorem State.setSup_same {p : SupPoint} (h : u.pcSup = p) : { u with pcSup := p } = u := by rw [← h]

theorem resume_exit {code : Fin 3} (h : u.pcSup = .exiting) : finish (resume (.exit code)) u = finish (doing (exitSeq code)) u := by
  refine finish_doing_congr (Eq.symm ?_)
  unfold exitSeq
  rw [Op.bind_ok (setSup_run _ u), State.setSup_same h]

theorem setPoint_same {l : List (Agent × DfuPoint)} {a : Agent} {p : DfuPoint} (h : l.lookup a = some p) : setPoint l a p = l := by
  induction l with
  | nil => cases h
  | cons x rest ih =>
    obtain ⟨b, q⟩ := x
    by_cases hb : b = a
    · subst hb
      have hq : q = p := by simpa using h
      simp [setPoint, hq]
    · have hrest : rest.lookup a = some p := by simpa [List.lookup_cons, beq_false_of_ne (Ne.symm hb)] using h
      simp [setPoint, hb, ih hrest]

/-- An upload whose engine is at Validate is past its check (44_dfu_engine R382, log 42). -/
theorem dfuUpload_validated {k : Hold} {image : List Byte} (hv : u.pcDfu.lookup u.cur = some .validate)
    (hi : imageSizeLegal image.length = true) : dfuUpload k image u = uploadFrom k image u := by
  rw [dfuUpload_legal hi, State.dfuAt, setPoint_same hv]

theorem resume_upload {image : List Byte} (hv : u.pcDfu.lookup u.cur = some .validate) (hi : imageSizeLegal image.length = true) :
    finish (resume (.upload image)) u = exec (.dfuUpload image) u :=
  finish_doing_congr (dfuUpload_validated hv hi).symm

theorem resume_uploadRequest {image : List Byte} (hv : u.pcDfu.lookup u.cur = some .validate)
    (hi : imageSizeLegal image.length = true) : finish (resume (.uploadRequest image)) u = exec (.cUpload image) u := by
  refine finish_replying_congr ?_
  unfold cUpload attempt
  simp only [bind, EStateM.bind, dfuUpload_validated hv hi]

/-! Replies that are sent (45_control R450). -/

theorem State.send_head {a : Agent} {r : Reply} {rest : List (Agent × Reply)} (h : s.replies = (a, r) :: rest) :
    s.send a = { s with replies := rest }.replyTo a r := by
  simp [State.send, h]

/-! Time that passes. -/

/-- A suspension in which nothing lands and that ends by the supervisor's next tick only moves the clock. -/
theorem State.elapse_waits (h : ∀ w, s.supDue = some w → till ≤ w) : s.elapse till [] = { s with now := till } := by
  unfold State.elapse State.passTo
  cases till - s.now with
  | zero => rfl
  | succ k =>
    unfold State.wakes
    cases hdue : s.supDue with
    | none => rfl
    | some w => simp only [if_neg (Nat.not_lt.mpr (h w hdue))]

/-- A suspension to `w`, by the supervisor's next tick, in which nothing lands. -/
theorem suspend_waits {p : Susp} (hnow : s.now ≤ w) (hacts : p.acts = []) (hcut : p.cut = false)
    (hw : s.comp.wdog.expired w = false) (hdue : ∀ x, s.supDue = some x → w ≤ x) :
    suspend (w - s.now) p s = .ok () { s with now := w } := by
  have hend : s.now + (w - s.now) = w := by omega
  rw [suspend_ok hcut (by rwa [hend]), hend, hacts, State.elapse_waits hdue]

/-- An idle wait in which nothing lands lasts to the supervisor's wake time (log 35). -/
theorem runIdle_waits {p : Susp} {ps : List Susp} (hwake : s.supWake = some w) (hnow : s.now ≤ w) (hidle : s.inp.idle = p :: ps)
    (hacts : p.acts = []) (hcut : p.cut = false) (hw : s.comp.wdog.expired w = false)
    (hdue : ∀ x, s.supDue = some x → w ≤ x) :
    runIdle s = .next { s with now := w, inp := { s.inp with idle := ps } } := by
  obtain rfl : w = s.supWake.getD s.now := by simp [hwake]
  have hpop : popIdle s = .ok p { s with inp := { s.inp with idle := ps } } := by simp [popIdle, hidle]
  have hrun : idle s = .ok () { s with now := s.supWake.getD s.now, inp := { s.inp with idle := ps } } := by
    unfold idle
    rw [Op.bind_ok hpop, Op.bind_ok (Op.get_run _)]
    simp only [hacts]
    exact suspend_waits (p := { p with acts := [] }) (s := { s with inp := { s.inp with idle := ps } }) hnow rfl hcut hw hdue
  unfold runIdle
  rw [hrun]

theorem State.supRests.wake_le_due (h : s.supRests) (hwake : s.supWake = some w) : ∀ x, s.supDue = some x → w ≤ x := by
  intro x hx
  obtain h | h | ⟨h, hsig, -⟩ := h <;> simp_all [State.supDue]

/-- The tick sleep is fixed as it begins, at most the slack beyond 100 ms (42_power_fsm R300, log 33). -/
theorem State.armed_sleeping {late : Nat} {lates : List Nat} (hsup : s.pcSup = .sleeping) (hwake : s.supWake = none)
    (hl : s.inp.late = late :: lates) :
    s.arm = { s with
      supWake := some (s.now + (100 + min late s.par.tickSlackMs))
      inp := { s.inp with late := lates } } := by
  simp [State.arm, popLate, hsup, hwake, hl, tickMs, Nat.add_assoc]

/-! The supervisor's tick inside another agent's hold (42_power_fsm R301). -/

theorem State.supDue_sleeping (hup : s.up = true) (hheld : s.holder ≠ none) (hcur : s.cur ≠ .supervisor)
    (hsup : s.pcSup = .sleeping) (hsig : s.sigCancel = false) : s.supDue = s.supWake := by
  simp [State.supDue, *]

/-- A tick that begins now waits at `Lock()` with the limits it read (45_control R461, log 12). -/
theorem State.wake_tick (hsig : s.sigCancel = false) (hdead : s.fsm ≠ .dead) :
    s.wake = { s with
      supWake := none, pcSup := .waitLock
      waiters := s.waiters ++ [⟨.supervisor, .tick s.cfg.vlim s.cfg.tlim⟩] } := by
  simp [State.wake, State.tickHold, State.beginTick, State.park, hsig, hdead]

theorem State.wakes_quiet (h : s.supDue = none) : s.wakes till n = s := by
  cases n with
  | zero => rfl
  | succ n =>
    unfold State.wakes
    rw [h]

theorem State.wakes_due (hdue : s.supDue = some w) (hw : w < till) :
    s.wakes till (n + 1) = { s with now := max s.now w }.wake.wakes till n := by
  rw [State.wakes, hdue]
  exact if_pos hw

/-- No tick of the supervisor begins in a suspension of the running agent. -/
def State.noTick (s : State) : Prop := s.cur = .supervisor ∨ s.pcSup = .waitLock ∨ s.pcSup = .exiting

theorem State.noTick.supDue (h : s.noTick) : s.supDue = none := by
  obtain h | h | h := h <;> simp [State.supDue, h]

/-- A tick that is due in a suspension begins in its time (42_power_fsm R300). -/
theorem State.elapse_tick (hup : s.up = true) (hheld : s.holder ≠ none) (hcur : s.cur ≠ .supervisor)
    (hsup : s.pcSup = .sleeping) (hwake : s.supWake = some w) (hnow : s.now ≤ w) (hw : w < till) (hdead : s.fsm ≠ .dead)
    (hsig : s.sigCancel = false) :
    s.elapse till [] = { s with
      now := till, supWake := none, pcSup := .waitLock
      waiters := s.waiters ++ [⟨.supervisor, .tick s.cfg.vlim s.cfg.tlim⟩] } := by
  have hdue : s.supDue = some w := (State.supDue_sleeping hup hheld hcur hsup hsig).trans hwake
  obtain ⟨k, hk⟩ : ∃ k, till - s.now = k + 1 := ⟨till - s.now - 1, by omega⟩
  have hwaits : ({ s with now := max s.now w }.wake).supDue = none :=
    State.noTick.supDue (.inr (.inl (by rw [State.wake_tick (by exact hsig) (by exact hdead)])))
  unfold State.elapse State.passTo
  rw [hk, State.wakes_due hdue hw, State.wakes_quiet hwaits, State.wake_tick (by exact hsig) (by exact hdead)]

/-! What lands inside the running agent's hold (60_exceptions R605). -/

/-- One arrival in a suspension in which no tick begins. -/
theorem State.elapse_arrival {after : Nat} {a : EnvAct} {t : State} (h : s.noTick)
    (ha : { s with now := min (s.now + after) till }.act a = t) (ht : t.noTick) :
    s.elapse till [⟨after, a⟩] = { t with now := till } := by
  have hfirst : s.passTo (min (s.now + after) till) = { s with now := min (s.now + after) till } :=
    s.elapse_quiet _ h.supDue
  rw [State.elapse, hfirst, ha]
  exact t.elapse_quiet till ht.supDue

theorem State.act_request {word : List Byte} (h : s.up = true) : s.act (.request word) = { s.emit (.request s.nextReq word) with
    nextReq := s.nextReq + 1
    reqs := s.reqs ++ [{ id := s.nextReq, word := word, point := .received, reply := none }] } := if_pos h

theorem State.serve_reply {k : Nat} {r : Reply} {rest : List (Agent × Reply)} (hcur : s.cur ≠ .ctrl k)
    (h : s.replies = (.ctrl k, r) :: rest) : s.serve k = { s with replies := rest }.replyTo (.ctrl k) r := by
  have hsome : (s.replies.lookup (.ctrl k)).isSome = true := by simp [h]
  rw [State.serve, if_neg hcur, if_pos hsome, State.send_head h]

theorem State.serve_request {q : Request} (hinv : s.requestInv) (hq : q ∈ s.reqs) (hp : q.point = .received)
    (hcur : s.cur ≠ .ctrl q.id) (hr : s.replies.lookup (.ctrl q.id) = none) : s.serve q.id = s.start q := by
  have hfind : (s.reqs.find? fun p => p.id == q.id && p.arrived) = some q :=
    State.find_of_id hinv hq (by simp [Request.arrived, hp]) fun p hp => by simp_all
  rw [State.serve, if_neg hcur, if_neg (by simp [hr]), hfind]

/-! A request's agent that starts inside the hold (45_control R450, R452, R453, R471). -/

/-- A request that is answered at once is answered by its operation, which leaves the same configuration. -/
theorem exec_immediate {i : Instr} {k : Nat} {r : Reply} {c : Cfg} (hi : isControl i = true)
    (h : immediateReply s.cfg i = some (r, c)) (hcur : s.cur = .ctrl k) :
    exec i s = .next (({ s with cfg := c }.atValidate i k).answered r) := by
  cases i
  case cGetConfig key => exact replying_ok (x := answered _) (orImmediate_some h)
  case cSetConfig key v => exact replying_ok (x := answered _) (orImmediate_some h)
  case cGetUsb p => exact replying_ok (orImmediate_some h)
  case cSetUsb p on => exact replying_ok (orImmediate_some h)
  case cStandby arg => exact replying_ok (orImmediate_some h)
  case cSnapshot => cases h
  case cShutdown => cases h
  case cUpload image =>
    have hillegal : ¬imageSizeLegal image.length = true := fun hl => by simp [immediateReply, hl] at h
    simp only [immediateReply, if_neg hillegal, Option.some.injEq, Prod.mk.injEq] at h
    obtain ⟨rfl, rfl⟩ := h
    have hraise := replying_ok (cUpload_raise (dfuUpload_refused (k := .uploadRequest image) hillegal s))
    rw [hcur] at hraise
    exact hraise
  all_goals cases hi

/-- The wall clock that is drawn depends on the inputs alone. -/
theorem popWall_of_inp (s : State) : ∃ w p, ∀ t, t.inp = s.inp → popWall t = .ok w { t with inp := p } := by
  cases hw : s.inp.wall with
  | nil => exact ⟨Config.drawWall s.inp.draws, { s.inp with draws := s.inp.draws + 1 }, fun t ht => by simp [popWall, ht, hw]⟩
  | cons w ws => exact ⟨w, { s.inp with wall := ws }, fun t ht => by simp only [popWall, ht, hw]⟩

theorem exec_cStandby_wall_held {a : Agent} {wake wall : Rat} {p : Inputs} (hs : s.holder = some a) (ha : a ≠ s.cur)
    (hpop : popWall s = .ok wall { s with inp := p }) :
    exec (.cStandby (.datetime wake)) s = .next ({ s with inp := p }.park s.cur (.standby (datetimeDelay wake wall))) := by
  have hwait := waits_underLock_bind (s := { s with inp := p }) hs ha (.standby (datetimeDelay wake wall))
    (requestStandby (datetimeDelay wake wall)) (fun r => return replyOf (fun _ => .unit) r)
  exact Waits.finish (t := { s with inp := p }) (Op.bind_error
    ((orImmediate_none rfl).trans ((Op.bind_ok hpop).trans hwait)))

/-- A request's agent that runs, as its request's operation sees it. -/
def State.asRequest (s : State) (k : Nat) : State := { s.markRunning k with cur := .ctrl k }

/-- A request that needs the bus waits, as its operation does, with the hold of its operands and at most one draw. -/
theorem exec_requestHold {i : Instr} {k : Nat} {a : Agent} (hi : isControl i = true) (h : immediateReply s.cfg i = none)
    (hs : s.holder = some a) (ha : a ≠ .ctrl k) :
    ∃ g p, (s.atValidate i k).requestHold i = some (g, { s.atValidate i k with inp := p }) ∧
      exec i (s.asRequest k) = .next ({ (s.asRequest k).atValidate i k with inp := p }.park (.ctrl k) g) := by
  have hs' : (s.asRequest k).holder = some a := hs
  have ha' : a ≠ (s.asRequest k).cur := ha
  cases i
  case cSnapshot => exact ⟨_, s.inp, rfl, Waits.finish (Op.bind_error (waits_underLock_bind hs' ha' _ _ _))⟩
  case cShutdown => exact ⟨_, s.inp, rfl, Waits.finish (Op.bind_error (waits_underLock_bind hs' ha' _ _ _))⟩
  case cGetUsb p => exact ⟨_, s.inp, rfl, exec_cGetUsb_held hs' ha' (by simpa [immediateReply] using h)⟩
  case cSetUsb p on => exact ⟨_, s.inp, rfl, exec_cSetUsb_held hs' ha' (by simpa [immediateReply] using h) on⟩
  case cUpload image => exact ⟨_, s.inp, rfl, exec_cUpload_held hs' ha' (by simpa [immediateReply] using h)⟩
  case cStandby arg =>
    cases arg with
    | delay d =>
      have hwait := exec_cStandby_delay_held hs' ha' (d := d) (by simpa [immediateReply] using h)
      rw [← clampDelay_eq] at hwait
      exact ⟨_, s.inp, rfl, hwait⟩
    | datetime wake =>
      obtain ⟨wall, p, hpop⟩ := popWall_of_inp s
      refine ⟨.standby (datetimeDelay wake wall), p, ?_, exec_cStandby_wall_held hs' ha' (hpop _ rfl)⟩
      simp only [State.requestHold, State.atValidate, hpop s rfl]
    | other given => cases h
  case cGetConfig key =>
    cases key with
    | none => cases h
    | some key =>
      simp only [immediateReply] at h
      split at h <;> cases h
  case cSetConfig key v =>
    simp only [immediateReply] at h
    split at h
    · cases h
    · split at h <;> cases h
  all_goals cases hi

/-- The engine's point of an upload depends on the engines alone. -/
theorem State.atValidate_of_pcDfu (s : State) (i : Instr) (k : Nat) :
    ∃ l, ∀ t : State, t.pcDfu = s.pcDfu → t.atValidate i k = { t with pcDfu := l } := by
  cases i
  case cUpload image => exact ⟨setPoint s.pcDfu (.ctrl k) .validate, fun t ht => by rw [← ht]; rfl⟩
  all_goals exact ⟨s.pcDfu, fun t ht => by rw [← ht]; rfl⟩

theorem State.start_unknown {q : Request} (hi : decodeRequest q.word = none) :
    s.start q = (s.markRunning q.id).post (.ctrl q.id) (.error (.badRequest (.request q.word))) := by
  simp only [State.start, hi]

theorem State.start_immediate {q : Request} {i : Instr} {r : Reply} {c : Cfg} (hi : decodeRequest q.word = some i)
    (h : immediateReply s.cfg i = some (r, c)) :
    s.start q = (({ s with cfg := c }.atValidate i q.id).markRunning q.id).post (.ctrl q.id) r := by
  simp only [State.start, hi, h]

theorem State.start_held {q : Request} {i : Instr} {g : Hold} {t : State} (hi : decodeRequest q.word = some i)
    (h : immediateReply s.cfg i = none) (hheld : s.holder ≠ none) (hg : (s.atValidate i q.id).requestHold i = some (g, t)) :
    s.start q = (t.markRunning q.id).park (.ctrl q.id) g := by
  simp only [State.start, hi, h, if_neg hheld, hg]

/-- The agent that starts does what its operation does; the running one and its result stay. -/
theorem State.start_follows {q : Request} {i : Instr} {a : Agent} (hi : decodeRequest q.word = some i)
    (hs : s.holder = some a) (ha : a ≠ .ctrl q.id) :
    ∃ t, exec i (s.asRequest q.id) = .next t ∧ s.start q = { t with cur := s.cur, result := s.result } ∧ t.pcSup = s.pcSup := by
  have hcontrol := Watch.decodeRequest_control hi
  obtain ⟨l, hl⟩ := s.atValidate_of_pcDfu i q.id
  cases hnow : immediateReply s.cfg i with
  | some x =>
    obtain ⟨r, c⟩ := x
    refine ⟨_, exec_immediate (s := s.asRequest q.id) hcontrol hnow rfl, ?_⟩
    rw [State.start_immediate hi hnow, hl { s with cfg := c } rfl, hl { s.asRequest q.id with cfg := c } rfl]
    exact ⟨rfl, rfl⟩
  | none =>
    obtain ⟨g, p, hhold, hexec⟩ := exec_requestHold hcontrol hnow hs ha
    refine ⟨_, hexec, ?_⟩
    rw [State.start_held hi hnow (by simp [hs]) hhold, hl s rfl, hl (s.asRequest q.id) rfl]
    exact ⟨rfl, rfl⟩

/-! The step of a block with one thing that can run. -/

section One

variable (hn : s.inp.agent = n :: ns)

include hn

theorem schedule_tick (hreqs : s.reqs.filter Request.arrived = []) (hwait : s.waiters = []) (hreplies : s.replies = [])
    (h : s.pcSup = .init ∨ (s.pcSup = .sleeping ∧ ∃ w, s.supWake = some w ∧ (w ≤ s.now ∨ s.sigCancel = true))) :
    schedule s = exec .tick { s with inp := { s.inp with agent := ns }, cur := .supervisor } := by
  have harm : s.arm = s := by
    obtain h | ⟨-, w, hw, -⟩ := h
    · exact State.armed_of_awake (by simp [h])
    · exact State.armed_of_wake hw
  have hready : s.supReady = true := by
    obtain h | ⟨h, w, hw, hdue⟩ := h
    · simp [State.supReady, h]
    · obtain hdue | hdue := hdue <;> simp [State.supReady, *]
  exact schedule_only harm hn (State.tasks_tick hreqs hwait hreplies hready)

variable (h : s.supRests)

include h

theorem schedule_request {q : Request} (hreqs : s.reqs.filter Request.arrived = [q]) (hwait : s.waiters = [])
    (hreplies : s.replies = []) (he : n % 2 = 0) :
    schedule s = runRequest q.id { s with inp := { s.inp with agent := ns } } :=
  schedule_ipc (k := .request q.id) h hwait (by simp [State.ipc, hreqs, hreplies]) hn he

theorem schedule_resume {x : Waiter} (hreqs : s.reqs.filter Request.arrived = []) (hwait : s.waiters = [x])
    (hreplies : s.replies = []) (hfree : s.holder = none) :
    schedule s = finish (resume x.hold) { s with inp := { s.inp with agent := ns }, cur := x.agent, waiters := [] } :=
  (schedule_only h.arm hn (h.tasks_resume hreqs hwait hreplies hfree)).trans (runWaiter_only hwait)

theorem schedule_send {a : Agent} {r : Reply} (hreqs : s.reqs.filter Request.arrived = []) (hwait : s.waiters = [])
    (hreplies : s.replies = [(a, r)]) (he : n % 2 = 0) :
    schedule s = .next ({ s with inp := { s.inp with agent := ns }, replies := [] }.replyTo a r) :=
  (schedule_ipc (k := .send a) h hwait (by simp [State.ipc, hreqs, hreplies]) hn he).trans
    (congrArg Host.Outcome.next (State.send_head hreplies))

end One

/-- The tick sleep begins and is waited out. -/
theorem schedule_sleeps {late : Nat} {lates : List Nat} {p : Susp} {ps : List Susp} (hsup : s.pcSup = .sleeping)
    (hsig : s.sigCancel = false) (hwake : s.supWake = none) (hreqs : s.reqs.filter Request.arrived = []) (hwait : s.waiters = [])
    (hreplies : s.replies = []) (hfree : s.holder = none) (hl : s.inp.late = late :: lates) (hidle : s.inp.idle = p :: ps)
    (hacts : p.acts = []) (hcut : p.cut = false) (hw : w = s.now + (100 + min late s.par.tickSlackMs))
    (hlast : s.comp.wdog.expired w = false) :
    schedule s = .next { s with supWake := some w, now := w, inp := { s.inp with late := lates, idle := ps } } := by
  have harm : s.arm = { s with supWake := some w, inp := { s.inp with late := lates } } := by
    rw [hw]
    exact State.armed_sleeping hsup hwake hl
  have hrests : s.arm.supRests := by
    rw [harm]
    exact .inr (.inr ⟨hsup, hsig, w, rfl, by simp only; omega⟩)
  have htasks : s.arm.tasks = [] := by
    have hipc : s.arm.ipc = [] := by
      rw [harm]
      exact State.ipc_nil hreqs hreplies
    rw [State.tasks_of_due hipc, hrests.due_nil (by rw [harm]; exact hwait)]
  have hidles : schedule s = runIdle s.arm := by
    unfold schedule
    rw [htasks]
  have hdue : s.arm.supDue = none := by simp [State.supDue, harm, hfree]
  rw [hidles]
  rw [harm] at hdue ⊢
  exact runIdle_waits (s := { s with supWake := some w, inp := { s.inp with late := lates } }) rfl (by simp only; omega) hidle
    hacts hcut hlast fun x hx => by simp [hdue] at hx

/-- Settles O4: the draw among what can run, each run by its own lemma, and what lands in a hold by one arrival's. -/
theorem blockSteps : Obligations.BlockSteps := by
  unfold Obligations.BlockSteps
  intro s
  refine ⟨step_exited, fun hexit hport => ⟨step_down hexit hport, fun hup n ns s0 hn hs0 => ?draws, ?sleeps⟩,
    fun w till hup hheld hcur hsup hwake hnow hw hdead hsig => State.elapse_tick hup hheld hcur hsup hwake hnow hw hdead hsig,
    fun after till s0 hup hheld hno hs0 => ?arrivals⟩
  case draws =>
    subst hs0
    rw [step_up hexit hport hup]
    refine ⟨schedule_tick hn, fun hrests => ⟨fun q hreqs hwait hreplies hinv he => ?request,
      fun x u hreqs hwait hreplies hfree hu => ?resume, fun a r hreqs hwait hreplies he => ?reply,
      fun k w p ps hk hpos he hwait hwake hnow hidle hacts hcut hw => ?pass⟩⟩
    case request =>
      have hq : q ∈ s.reqs := List.mem_of_mem_filter (hreqs ▸ List.mem_singleton_self q)
      rw [schedule_request hn hrests hreqs hwait hreplies he]
      exact ⟨fun i hi => runRequest_known (s := { s with inp := { s.inp with agent := ns } }) hinv hq hi,
        fun hi => runRequest_unknown (s := { s with inp := { s.inp with agent := ns } }) hinv hq hi⟩
    case resume =>
      have hsup : u.pcSup = s.pcSup := by rw [hu]
      have hagent : u.cur = x.agent := by rw [hu]
      have hdfu : u.pcDfu = s.pcDfu := by rw [hu]
      have hport {p : Int} (hmin : 0 ≤ p) (hmax : p ≤ 3) : portLegal p = true := by simp [portLegal, hmin, hmax]
      rw [schedule_resume hn hrests hreqs hwait hreplies hfree]
      rw [← hu]
      refine ⟨fun hx => ?snapshot, fun p hx hmin hmax => ?getUsb, fun p on hx hmin hmax => ?setUsb, fun hx => ?shutdown,
        fun d hx hd => ?standby, fun code hx hexiting => ?exit, fun image hv hmin hmax => ?uploads, fun v l hx => ?tick⟩
      case snapshot => rw [hx]; rfl
      case getUsb => rw [hx, resume_getUsb (hport hmin hmax)]
      case setUsb => rw [hx, resume_setUsb (hport hmin hmax)]
      case shutdown => rw [hx]; rfl
      case standby => rw [hx, resume_standby hd]
      case exit =>
        rw [hx, resume_exit (hsup.trans hexiting)]
        rfl
      case uploads =>
        have hvalid : u.pcDfu.lookup u.cur = some .validate := by rw [hdfu, hagent, hv]
        have hlegal := (imageSizeLegal_iff _).mpr ⟨hmin, hmax⟩
        exact ⟨fun hx => by rw [hx, resume_upload hvalid hlegal], fun hx => by rw [hx, resume_uploadRequest hvalid hlegal]⟩
      case tick => rw [hx]
    case reply => exact schedule_send hn hrests hreqs hwait hreplies he
    case pass =>
      have hlen : s.ipc.length = k := by simp [State.ipc, hk]
      subst hlen
      rw [schedule_pass hrests hwait hpos hn he]
      exact runIdle_waits hwake hnow.le hidle hacts hcut hw (State.supRests.wake_le_due hrests hwake)
  case sleeps =>
    intro hup hsup hsig hwake hreqs hwait hreplies hfree late lates p ps hl hidle hacts hcut hw
    rw [step_up hexit hport hup]
    exact schedule_sleeps hsup hsig hwake hreqs hwait hreplies hfree hl hidle hacts hcut rfl hw
  case arrivals =>
    subst hs0
    refine ⟨fun word => State.elapse_arrival hno (State.act_request hup) hno, fun k => State.elapse_arrival hno rfl hno,
      fun k r rest hcur hr => ?reply, fun q hq hp hinv hcur hr => ?starts⟩
    case reply =>
      exact State.elapse_arrival hno (State.serve_reply (s := { s with now := min (s.now + after) till }) hcur hr) hno
    case starts =>
      have hserve := State.serve_request (s := { s with now := min (s.now + after) till }) hinv hq hp hcur hr
      refine ⟨fun hi => State.elapse_arrival hno (hserve.trans (State.start_unknown hi)) hno, fun i hi => ?_⟩
      obtain ⟨t, hexec, hstart, hsup⟩ := State.start_follows (s := { s with now := min (s.now + after) till }) hi hheld hcur
      refine ⟨t, hexec, State.elapse_arrival (t := { t with cur := s.cur, result := s.result }) hno (hserve.trans hstart) ?_⟩
      simpa only [State.noTick, hsup] using hno

end Steps

end Sys2Proof.Machine
end
